-- ==== Sys2Proof/Word.lean ====
section
/-! DEFINITION. The words, widths and names that commands and state share (0.6, Table 1-1, Table 10-9). -/

namespace Sys2Proof

/-- 8 bits (0.6 "Sizes"). -/
abbrev Byte := BitVec 8

/-- 32 bits, the width of the Frame Ports (0.6 "Sizes"). -/
abbrev Word := BitVec 32

/-- A tag as carried, 0–65535; tags in use are 1–65535 (Table 4-1). -/
abbrev Tag := BitVec 16

/-- A 48-bit sequence number, ceiling or watermark (Table 0-2, Table 10-9). -/
abbrev SeqNo := BitVec 48

/-- A byte life or low-life mark, 0 to 2^40−1 (Table 1-1, Table 10-9). -/
abbrev ByteLife := BitVec 40

/-- A slot of the Context Table, 0–255 (R1). -/
abbrev SlotNo := Fin 256

/-- A recipe of the Recipe Table, 0–15 (R51). -/
abbrev RecipeNo := Fin 16

/-- An anchor of the Anchor Store, 0–7 (R176). -/
abbrev AnchorNo := Fin 8

/-- A lock range of the Lock Unit, 0–3 (R184). -/
abbrev RangeNo := Fin 4

/-- A 256-bit anchor key (R176). -/
abbrev AnchorKey := BitVec 256

/-- A 12-byte nonce, byte 0 in the highest bits (R58). -/
abbrev Nonce := BitVec 96

/-- A block of 96 bytes: the Command Block or the Result Block (Table 8-1). -/
abbrev Block := Vector Byte 96

/-- A context key of the width its context names (R178). -/
inductive ContextKey
  | k128 (k : BitVec 128)
  | k256 (k : BitVec 256)
  deriving DecidableEq, Repr

/-- The two cipher lanes (Table 5-1). -/
inductive LaneId
  | laneA
  | laneB
  deriving DecidableEq, Repr

/-- The three check groups of a Context Record (R22). -/
inductive CheckGroup
  | key
  | counters
  | settings
  deriving DecidableEq, Repr

/-- The four anchor states (Table 9-1). -/
inductive AnchorState
  | blank
  | programmed
  | revoked
  | defective
  deriving DecidableEq, Repr

/-- What crosses Frame In at one FCLK edge: DATA, FIRST, LAST and COUNT together (R193). -/
structure FrameWord where
  data : Word
  first : Bool
  last : Bool
  count : BitVec 2
  deriving DecidableEq, Repr

/-- Damage to one check group of one slot's stored record, so that the group's stored check value disagrees with its
fields (section 1.11, R22). When damage comes about is the outside world's, so it is an operand of the commands that
read records (DESIGN CHOICE, assumption 3). -/
structure Damage where
  slot : SlotNo
  group : CheckGroup
  deriving DecidableEq, Repr

end Sys2Proof
end

