-- ==== Sys2Proof/Syntax.lean ====
section
/-! DEFINITION. The commands: one constructor per row of spec/opcode_table.json, in the table's order. The table gives
its rows no operand bits; each operand below is what the row's rule takes from outside the part (assumption 2). -/

namespace Sys2Proof

/-- The steps of the part, each whole and indivisible (spec/95_what_each_step_holds.md). -/
inductive Instr
  /-- JOB_FIRST_WORD (R73): a word on Frame In, the intake in AWAIT_JOB or JOB_WORD. -/
  | jobFirstWord (w : FrameWord)
  /-- JOB_HEADER (R76): the second Job Header word; the damage met by the lookup's read and by a roll-over's reads. -/
  | jobHeader (w : FrameWord) (atLookup atRoll : List Damage)
  /-- FRAME_WORD (R86): a word on Frame In, the intake STREAMING. -/
  | frameWord (w : FrameWord)
  /-- DISCARD_WORD (R83): a word on Frame In, the intake DISCARDING. -/
  | discardWord (w : FrameWord)
  /-- STAGE_TO_WORK (R96) of one lane. -/
  | stageToWork (l : LaneId)
  /-- KEY_FETCH (R99) of one lane. -/
  | keyFetch (l : LaneId)
  /-- HEADER (R100) of one lane. -/
  | header (l : LaneId)
  /-- BODY (R101) of one lane. -/
  | body (l : LaneId)
  /-- TAG (R102) of one lane. -/
  | tag (l : LaneId)
  /-- WORK_TO_OUT (R98) of one lane. -/
  | workToOut (l : LaneId)
  /-- LANE_FAULT (R107) found in one lane. -/
  | laneFault (l : LaneId)
  /-- RELEASE (R117); the damage met by the release's read and by a peer roll-over's reads. -/
  | release (atRead atRoll : List Damage)
  /-- RESULT_WORD (R129): the sink accepts the word Frame Out presents. -/
  | resultWord
  /-- DRAIN_TIMER_EXPIRY (R19) of one slot. -/
  | drainTimerExpiry (k : SlotNo)
  /-- INSTALL (R162): 01h written to Start. -/
  | install
  /-- SUCCEED (R166): 02h written to Start. -/
  | succeed (found : List Damage)
  /-- UNWRAP_COMPLETION (R164). -/
  | unwrapCompletion
  /-- ACTIVATE (R168): 03h written to Start. -/
  | activate (found : List Damage)
  /-- RETIRE (R169): 04h written to Start. -/
  | retire (found : List Damage)
  /-- MODIFY (R170): 05h written to Start. -/
  | modify (found : List Damage)
  /-- PURGE (R172): 06h written to Start. -/
  | purge
  /-- QUERY (R173): 07h written to Start. -/
  | query (found : List Damage)
  /-- QUERY_TAG (R48): 08h written to Start. -/
  | queryTag
  /-- SOFT_RESET (R174): 09h written to Start. -/
  | softReset
  /-- WRITE_RECIPE (R67): 10h written to Start. -/
  | writeRecipe
  /-- CLEAR_RECIPE (R68): 11h written to Start. -/
  | clearRecipe
  /-- READ_RECIPE (R69): 12h written to Start. -/
  | readRecipe
  /-- ABORT_LANES (R110): 18h written to Start. -/
  | abortLanes
  /-- RESTORE_LANE (R111): 19h written to Start. -/
  | restoreLane
  /-- COLLECT (R147): 20h written to Start. -/
  | collect
  /-- COLLECT_NEXT (R148): 21h written to Start. -/
  | collectNext
  /-- PROGRAM_ANCHOR (R179): 28h written to Start. -/
  | programAnchor
  /-- ANCHOR_PROGRAM_COMPLETE (R180): the key read back, or none when the store reports that the write could not be
  made. -/
  | anchorProgramComplete (readBack : Option AnchorKey)
  /-- REVOKE_ANCHOR (R181): 29h written to Start. -/
  | revokeAnchor
  /-- ANCHOR_REVOKE_COMPLETE (R181): the state read back. -/
  | anchorRevokeComplete (readBack : AnchorState)
  /-- READ_ANCHOR_STATE (R183): 2Ah written to Start. -/
  | readAnchorState
  /-- SET_LOCK (R185): 30h written to Start. -/
  | setLock
  /-- CLEAR_LOCK (R186): 31h written to Start. -/
  | clearLock
  /-- READ_LOCKS (R187): 32h written to Start. -/
  | readLocks
  /-- BAD_COMMAND (R158): a code that names no command written to Start. -/
  | badCommand (code : Byte)
  /-- START_REFUSED (R155): a code written to Start while the Command Unit is EXECUTING. -/
  | startRefused (code : Byte)
  /-- INTERRUPT_FLAGS_WRITE (R192): a byte written to 05h. -/
  | interruptFlagsWrite (b : Byte)
  /-- INTERRUPT_MASK_WRITE (R190): a byte written to 06h. -/
  | interruptMaskWrite (b : Byte)
  /-- REGISTER_WRITE (R190): a byte written to another address of the Register Window. -/
  | registerWrite (addr b : Byte)
  /-- LOCK_LINE_LEVEL (R188): the level LOCK# takes, true when asserted. -/
  | lockLineLevel (asserted : Bool)
  /-- RST_ASSERT (R196): RST# has been held low for 1 µs or more. -/
  | rstAssert
  /-- RST_RELEASE (R196). -/
  | rstRelease
  /-- POWER_ON (R196). -/
  | powerOn
  /-- POWER_LOSS (R182). -/
  | powerLoss
  /-- STARTUP_END (R196). -/
  | startupEnd
  deriving DecidableEq, Repr

end Sys2Proof
end

