-- ==== Sys2Proof/Machine/Bytes.lean ====
section
/-! DEFINITION. Byte order and blocks of bytes: every field of several bytes stands high byte first (R195, Table 10-6),
and a Frame Port word holds its first byte in bits 31–24 (R193). -/

namespace Sys2Proof.Machine

/-- The number `v` as `n` bytes, high byte first (R195). -/
def bytesOf (n v : Nat) : List Byte :=
  (List.range n).map fun i => BitVec.ofNat 8 (v >>> (8 * (n - 1 - i)))

/-- The number that bytes spell, high byte first (R195). -/
def natOf (bs : List Byte) : Nat := bs.foldl (fun a b => a * 256 + b.toNat) 0

/-- A yes/no item: 00h or 01h (Table 10-9). -/
def yesNo (b : Bool) : Byte := if b then 0x01 else 0x00

/-- A block that begins with the given bytes and is zero beyond them (R156, R195). -/
def blockOf (bs : List Byte) : Block := Vector.ofFn fun i => bs.getD i 0

/-- Byte `i` of a block, counted from its first address (R195). -/
def byteAt (b : Block) (i : Nat) : Byte := (b[i]?).getD 0

/-- The `n` bytes of a block from offset `off`. -/
def bytesAt (b : Block) (off n : Nat) : List Byte := (List.range n).map fun i => byteAt b (off + i)

/-- The field of `n` bytes at offset `off`, high byte first (R195). -/
def fieldAt (b : Block) (off n : Nat) : Nat := natOf (bytesAt b off n)

/-- The field of `n` bytes at offset `off` as a word of `w` bits. -/
def wordAt (b : Block) (off n w : Nat) : BitVec w := BitVec.ofNat w (fieldAt b off n)

/-- The block with zeros in the `n` bytes from offset `off` (R180). -/
def zeroBytes (b : Block) (off n : Nat) : Block :=
  Vector.ofFn fun i => if off ≤ i.val ∧ i.val < off + n then 0 else b[i]

/-- The leading bytes of a Frame Port word, bits 31–24 first (R193). -/
def wordBytes (w : Word) (n : Nat) : List Byte := (bytesOf 4 w.toNat).take n

/-- The number of bytes a word brings: four, or on a word with LAST the number COUNT gives: 01 for 1, 10 for 2, 11 for
3 and 00 for 4 (R193). -/
def frameByteCount (w : FrameWord) : Nat :=
  if w.last then (if w.count = 0 then 4 else w.count.toNat) else 4

/-- The bytes a word brings (R86, R193). -/
def frameBytes (w : FrameWord) : List Byte := wordBytes w.data (frameByteCount w)

/-- COUNT on the last word of a transfer of `n` bytes, by how many of the word's bytes belong to it: 00 for 4, and for
a result with no output bytes, whose last word is the fourth header word (R129, R193). -/
def countCode (n : Nat) : BitVec 2 := BitVec.ofNat 2 n

end Sys2Proof.Machine
end

