-- ==== Sys2Proof/Config.lean ====
section
/-! DEFINITION. What the manual leaves to arithmetic it does not give, or leaves open: functions and values with no
body, so that nothing proved can rest on what they are. -/

namespace Sys2Proof

namespace Config

/-- Byte n of the keystream under a key and a nonce: AES in counter mode, whose arithmetic is outside the manual (R54).
Free function, assumption 5. -/
opaque keystream : ContextKey → Nonce → Nat → Byte

/-- The 16-byte tag of key, nonce, authenticated clear bytes and cipher bytes; its arithmetic is outside the manual
(R57). Free function, assumption 5. -/
opaque authTag : ContextKey → Nonce → List Byte → List Byte → BitVec 128

/-- The unwrap of a 24-byte wrapped key under an anchor key: a 128-bit key or a failure (R178). Free function,
assumption 5. -/
opaque unwrap128 : AnchorKey → BitVec 192 → Option (BitVec 128)

/-- The unwrap of a 40-byte wrapped key under an anchor key: a 256-bit key or a failure (R178). Free function,
assumption 5. -/
opaque unwrap256 : AnchorKey → BitVec 320 → Option (BitVec 256)

/-- The byte READ_RECIPE reports for the recipe state EMPTY (false) or DEFINED (true): Table 10-8 gives no code for it.
Free value, assumption 6. -/
opaque recipeStateCode : Bool → Byte

end Config
end Sys2Proof
end

