-- ==== Sys2Proof/Machine/State.lean ====
section
/-! DEFINITION. The state of the part, block by block (Table 0-1), and the part right after reset. -/

namespace Sys2Proof.Machine

/-! ## Context Table (chapter 1) -/

/-- The six context states of a slot in use; FREE is the absence of a record (R1, Table 1-2). -/
inductive CtxState
  | loading
  | standby
  | active
  | draining
  | retiring
  | quarantined
  deriving DecidableEq, Repr

/-- Key width, 128 or 256 (Table 1-1). -/
inductive KeyWidth
  | w128
  | w256
  deriving DecidableEq, Repr

/-- Direction permission (Table 1-1). -/
inductive DirPerm
  | protectOnly
  | admitOnly
  | both
  deriving DecidableEq, Repr

/-- The flags of a context (Table 1-1). -/
structure CtxFlags where
  peerRoll : Bool
  lifeRoll : Bool
  verifyHold : Bool
  deriving DecidableEq, Repr

/-- The settings of a context, the fields MODIFY may change (R7). Bit n of `recipes` allows recipe n. -/
structure Settings where
  direction : DirPerm
  recipes : BitVec 16
  flags : CtxFlags
  ceiling : SeqNo
  lowMark : ByteLife
  verifyLimit : Byte
  drainBudget : BitVec 16
  drainTime : BitVec 16
  deriving DecidableEq, Repr

/-- Whether the stored check value of each group agrees with the group's fields (R22; assumption 3). -/
structure Checks where
  keyOk : Bool
  countersOk : Bool
  settingsOk : Bool
  deriving DecidableEq, Repr

/-- A Context Record (Table 1-1). The marker is derived from the generation; the Condition Record is the Attention
Unit's (`State.conds`). -/
structure Context where
  state : CtxState
  tag : Tag
  generation : Byte
  anchor : AnchorNo
  keyWidth : KeyWidth
  key : Option ContextKey
  salt : Word
  settings : Settings
  nextSeq : SeqNo
  lifeInstalled : ByteLife
  lifeLeft : ByteLife
  lowReported : Bool
  spent : Bool
  watermark : SeqNo
  verifyFailures : Byte
  drainProgress : BitVec 16
  timerLeft : BitVec 16
  timerRuns : Bool
  inFlight : Nat
  framesProtected : BitVec 32
  framesAdmitted : BitVec 32
  framesRefused : BitVec 32
  checks : Checks
  deriving DecidableEq, Repr

/-! ## Tag Directory (chapter 2) -/

/-- The place a bound slot holds in its tag's pair (section 2.1). -/
inductive Place
  | active
  | standby
  | draining
  deriving DecidableEq, Repr

/-- An entry of the Tag Directory: the slot bound in each place, if any (R27, R28). -/
structure DirEntry where
  active : Option SlotNo
  standby : Option SlotNo
  draining : Option SlotNo
  deriving DecidableEq, Repr

/-! ## Recipe Table (chapter 3) -/

/-- The step kinds (Table 3-2). -/
inductive StepKind
  | header
  | clear
  | cipher
  | skip
  | strip
  | tag
  deriving DecidableEq, Repr

/-- A step's length: fixed, or the rest of the frame (R52). -/
inductive StepLen
  | fixed (n : Nat)
  | rest
  deriving DecidableEq, Repr

/-- A step of a recipe (section 3.2). -/
structure Step where
  kind : StepKind
  len : StepLen
  deriving DecidableEq, Repr

/-- The tag length of a recipe: 8, 12 or 16 bytes (Table 3-1). -/
inductive TagLen
  | t8
  | t12
  | t16
  deriving DecidableEq, Repr

/-- A recipe's definition (Table 3-1). -/
structure RecipeDef where
  steps : List Step
  tagLen : TagLen
  maxInput : Nat
  deriving DecidableEq, Repr

/-- A recipe: EMPTY when it has no definition, else DEFINED; and its in-flight count (R51, R66). -/
structure Recipe where
  defn : Option RecipeDef
  inFlight : Nat
  deriving DecidableEq, Repr

/-! ## Jobs, lanes and the Return Queue (chapters 4, 5 and 6) -/

/-- The direction of a frame (Table 4-1). -/
inductive Direction
  | toProtect
  | toAdmit
  deriving DecidableEq, Repr

/-- What a dispatch to a lane fixes for a frame (R84, R95). `layout` is the recipe's steps with their resolved lengths
(assumption 16), `reserved` the sequence number of a protect, `id` the model's own number of the job (assumption 17). -/
structure Job where
  id : Nat
  dir : Direction
  tag : Tag
  marker : Bool
  slot : SlotNo
  recipe : RecipeNo
  layout : List (StepKind × Nat)
  tagLen : TagLen
  inLen : Nat
  outLen : Nat
  reserved : SeqNo
  deriving DecidableEq, Repr

/-- The provisional outcome a lane hands to its entry (Table 5-3). -/
inductive LaneOutcome
  | finished
  | malformed
  | verifyFail
  | verified
  deriving DecidableEq, Repr

/-- The verdict of a job ended before its frame reached OUT, or in OUT by a record check (R104, R115). -/
inductive EndVerdict
  | framing
  | aborted
  | faulted
  deriving DecidableEq, Repr

/-- The status of a LANE entry (Table 6-2); FINISHED with the outcome and output length handed at the move to OUT. -/
inductive Status
  | pending
  | finished (o : LaneOutcome) (outLen : Nat)
  | ended (v : EndVerdict)
  deriving DecidableEq, Repr

/-- The sixteen verdicts (Table 6-4). -/
inductive Verdict
  | passed
  | noLane
  | recipeEmpty
  | length
  | noContext
  | noActive
  | held
  | direction
  | recipeDenied
  | exhausted
  | framing
  | malformed
  | verifyFail
  | stale
  | aborted
  | faulted
  deriving DecidableEq, Repr

/-- A REFUSED entry (R83). -/
structure RefusedEntry where
  verdict : Verdict
  dir : Direction
  tag : Tag
  marker : Bool
  slot : Option SlotNo
  deriving DecidableEq, Repr

/-- A LANE entry (R84): `seq` is the entry's sequence, `parsed` whether an admit's has been written in HEADER (R115). -/
structure LaneEntry where
  job : Job
  lane : LaneId
  seq : SeqNo
  parsed : Bool
  status : Status
  deriving DecidableEq, Repr

/-- An entry of the Return Queue (Table 6-1). -/
inductive Entry
  | refused (e : RefusedEntry)
  | lane (e : LaneEntry)
  deriving DecidableEq, Repr

/-- The Frame Intake (Table 4-2): the held first word in JOB_WORD; the job, its lane and the bytes received in
STREAMING. -/
inductive Intake
  | awaitJob
  | jobWord (w : Word)
  | streaming (job : Job) (lane : LaneId) (received : Nat)
  | discarding
  deriving DecidableEq, Repr

/-- A frame in STAGE, arriving or arrived (R96). -/
structure StageFrame where
  job : Job
  bytes : List Byte
  arrived : Bool
  deriving DecidableEq, Repr

/-- The phase of the frame in WORK: PROCESSING in one of four phases, or DONE (R97). -/
inductive WorkPhase
  | keyFetch
  | header
  | body
  | tag
  | done (o : LaneOutcome)
  deriving DecidableEq, Repr

/-- What KEY_FETCH copies into the lane (R99). -/
structure FetchedKey where
  key : ContextKey
  width : KeyWidth
  salt : Word
  generation : Byte
  marker : Bool
  deriving DecidableEq, Repr

/-- A frame in WORK: what the phases have left so far (R99 to R102). -/
structure WorkFrame where
  job : Job
  input : List Byte
  phase : WorkPhase
  fetched : Option FetchedKey
  header : List Byte
  nonce : Option Nonce
  authClear : List Byte
  cipherBytes : List Byte
  output : List Byte
  deriving DecidableEq, Repr

/-- A finished frame in OUT with its output bytes (R98). -/
structure OutFrame where
  job : Job
  bytes : List Byte
  deriving DecidableEq, Repr

/-- The state of a lane (R106). -/
inductive LaneState
  | online
  | offline
  deriving DecidableEq, Repr

/-- A cipher lane (Table 5-1). -/
structure Lane where
  state : LaneState
  stage : Option StageFrame
  work : Option WorkFrame
  out : Option OutFrame
  deriving DecidableEq, Repr

/-- A result in sending on Frame Out (R128, R129): the Result Header's six fields, the lane whose OUT holds the output
bytes, and the number of words the sink has accepted. -/
structure Sending where
  verdict : Verdict
  marker : Bool
  slot : Option SlotNo
  tag : Tag
  outLen : Nat
  seq : SeqNo
  lane : Option LaneId
  wordsSent : Nat
  deriving DecidableEq, Repr

/-! ## Attention Unit (chapter 7) -/

/-- The condition classes (Table 7-2). -/
inductive CondClass
  | recordCheck
  | verifyLimit
  | lifeLow
  | lifeExhausted
  | rollover
  | drained
  | laneFault
  | framesLost
  deriving DecidableEq, Repr

/-- The phases of a Condition Record (Table 7-1). -/
inductive CondPhase
  | dispatch
  | keyFetch
  | header
  | body
  | tag
  | release
  | command
  | timer
  deriving DecidableEq, Repr

/-- The reasons of a Condition Record (Table 7-1). -/
inductive Reason
  | peer
  | life
  | budget
  | timer
  deriving DecidableEq, Repr

/-- The ending codes, least severe first (R141). -/
inductive Ending
  | noEnding
  | finished
  | cut
  | discarded
  deriving DecidableEq, Repr

/-- A Condition Record (Table 7-1). A field with a valid flag is an `Option`. Bit n of `classes` is the class of that
bit in Table 10-8. -/
structure CondRecord where
  primary : CondClass
  classes : BitVec 8
  overlap : Nat
  holding : Bool
  phase : Option CondPhase
  lane : Option LaneId
  seq : Option SeqNo
  group : Option CheckGroup
  reason : Option Reason
  ancillary : Bool
  ending : Ending
  deriving DecidableEq, Repr

/-! ## Command Unit (chapter 8) -/

/-- The command copy taken at a Start, with the LOCK# sample (R154, Table 8-1). -/
structure CommandCopy where
  code : Byte
  block : Block
  lockAsserted : Bool
  deriving DecidableEq, Repr

/-- What an INSTALL or SUCCEED in its unwrap holds: its slot, the requested place, the unwrap's copy of the anchor key
and, for SUCCEED, the named slot (R163, R167, R177). -/
structure Unwrap where
  slot : SlotNo
  standby : Bool
  anchorKey : AnchorKey
  named : Option SlotNo
  deriving DecidableEq, Repr

/-- The Command Unit between events: IDLE, or EXECUTING one of the four commands with two events (R157). -/
inductive UnitState
  | idle
  | unwrapping (u : Unwrap)
  | programming (a : AnchorNo)
  | revoking (a : AnchorNo)
  deriving DecidableEq, Repr

/-! ## Anchor Store and Lock Unit (chapter 9) -/

/-- An open write on an anchor (R182). -/
inductive AnchorWrite
  | programming
  | revoking
  deriving DecidableEq, Repr

/-- An anchor in non-volatile storage (R176). -/
structure Anchor where
  state : AnchorState
  key : Option AnchorKey
  openWrite : Option AnchorWrite
  deriving DecidableEq, Repr

/-- A lock range in use (R184). -/
structure LockRange where
  low : Tag
  high : Tag
  sticky : Bool
  deriving DecidableEq, Repr

/-! ## Register Window and lines (chapter 10) -/

/-- The enables of the interrupt mask (Table 10-3). -/
structure IntMask where
  commandDone : Bool
  startRefused : Bool
  laneDown : Bool
  attention : Bool
  deriving DecidableEq, Repr

/-- What the host does at the lines of the Management Port: CS# falls or rises; SCK rises, with a level of SDI, or falls
(section 10.1). -/
inductive SerialEvent
  | csFall
  | csRise
  | sckRise (sdi : Bool)
  | sckFall
  deriving DecidableEq, Repr

/-- A READ transaction after its address byte (R189): the address of the next byte to be driven; the Result Block as it
stood when the address byte was taken (R156); the low byte of the Attention Queue length, once captured with the high
byte and until driven; the bits still to be driven of the byte in progress; the bit SDO drives, none at high
impedance. -/
structure Reading where
  addr : Byte
  result : Block
  queueLow : Option Byte
  shift : List Bool
  sdo : Option Bool
  deriving DecidableEq, Repr

/-- The Management Port (section 10.1, R189): CS# high; CS# low with the rest of the transaction ignored; or CS# low
with the bits received so far of the instruction, of the address (of a READ or not), or of a data byte of a WRITE and
the address it concerns; or a READ in its data phase. -/
inductive Port
  | deselected
  | ignoring
  | instruction (bits : List Bool)
  | address (read : Bool) (bits : List Bool)
  | writing (addr : Byte) (bits : List Bool)
  | reading (r : Reading)
  deriving DecidableEq, Repr

/-- Supplies: off; on with start-up not ended (RST# held, or start-up running); on with start-up ended (R196). -/
inductive Power
  | off
  | startUp
  | running
  deriving DecidableEq, Repr

/-- The whole part; the events waiting on its serial line; and the queue of commands waiting for it. -/
structure State where
  slots : Vector (Option Context) 256
  dir : List (Tag × DirEntry)
  recipes : Vector Recipe 16
  intake : Intake
  lastLane : LaneId
  laneA : Lane
  laneB : Lane
  queue : List Entry
  sending : Option Sending
  conds : Vector (Option CondRecord) 256
  attention : List SlotNo
  unit : UnitState
  copy : Option CommandCopy
  commandBlock : Block
  resultBlock : Block
  anchors : Vector Anchor 8
  locks : Vector (Option LockRange) 4
  commandDone : Bool
  startRefused : Bool
  laneDown : Bool
  mask : IntMask
  lockLine : Bool
  rstLine : Bool
  power : Power
  port : Port
  nextJob : Nat
  serial : List SerialEvent
  pending : List Instr
  deriving DecidableEq, Repr

/-- Nothing stops the part: each refusal, failed check and lane fault of the manual is an effect on its state, so no
command faults (assumption 27). -/
inductive Fault
  deriving DecidableEq, Repr

/-- Why `exec` gives no meaning. -/
inductive Refusal
  /-- Raised by `exec` for a row of the opcode table that has no meaning yet; safe, for the model then says nothing of
  the row. No row is in this case. -/
  | notModelled (mnemonic : String)
  deriving DecidableEq, Repr

/-- An EMPTY recipe with no frames in flight (R71). -/
def Recipe.initial : Recipe := ⟨none, 0⟩

/-- An ONLINE lane with its three positions empty (R113). -/
def Lane.initial : Lane := ⟨.online, none, none, none⟩

/-- An anchor as delivered (R176). -/
def Anchor.delivered : Anchor := ⟨.blank, none, none⟩

/-- The part right after reset: as delivered (R176), powered, RST# and LOCK# released, start-up ended (R196), every
block in its power-on state (R26, R50, R71, R94, R113, R135, R153, R175, R184, Table 10-2), no transaction in progress.
Assumptions 1 and 34. -/
def State.reset : State where
  slots := Vector.replicate 256 none
  dir := []
  recipes := Vector.replicate 16 Recipe.initial
  intake := .awaitJob
  lastLane := .laneB
  laneA := Lane.initial
  laneB := Lane.initial
  queue := []
  sending := none
  conds := Vector.replicate 256 none
  attention := []
  unit := .idle
  copy := none
  commandBlock := Vector.replicate 96 0
  resultBlock := Vector.replicate 96 0
  anchors := Vector.replicate 8 Anchor.delivered
  locks := Vector.replicate 4 none
  commandDone := false
  startRefused := false
  laneDown := false
  mask := ⟨false, false, false, false⟩
  lockLine := false
  rstLine := false
  power := .running
  port := .deselected
  nextJob := 0
  serial := []
  pending := []

end Sys2Proof.Machine
end

