-- ==== Sys2Proof/Machine/Codes.lean ====
section
/-! DEFINITION. The codes of Table 10-8, and the fields derived from a code or a record's stored fields. -/

namespace Sys2Proof.Machine

/-- The result codes (Table 8-3). -/
inductive ResultCode
  | done
  | badCommand
  | badField
  | badState
  | noSlot
  | notInUse
  | alreadyRetiring
  | tagFull
  | roleTaken
  | generationClash
  | noActive
  | locked
  | lockLine
  | anchorUnusable
  | unwrapFailed
  | tagConflict
  | pending
  | recipeBusy
  | recipeInvalid
  | anchorUsed
  | anchorFailed
  | sticky
  | nothingPending
  deriving DecidableEq, Repr

/-- Table 10-8, row Result. -/
def resultByte : ResultCode → Byte
  | .done => 0x00
  | .badCommand => 0x01
  | .badField => 0x02
  | .badState => 0x03
  | .noSlot => 0x04
  | .notInUse => 0x05
  | .alreadyRetiring => 0x06
  | .tagFull => 0x07
  | .roleTaken => 0x08
  | .generationClash => 0x09
  | .noActive => 0x0A
  | .locked => 0x0B
  | .lockLine => 0x0C
  | .anchorUnusable => 0x0D
  | .unwrapFailed => 0x0E
  | .tagConflict => 0x0F
  | .pending => 0x10
  | .recipeBusy => 0x11
  | .recipeInvalid => 0x12
  | .anchorUsed => 0x13
  | .anchorFailed => 0x14
  | .sticky => 0x15
  | .nothingPending => 0x16

/-- Table 10-8, row Verdict. -/
def verdictByte : Verdict → Byte
  | .passed => 0x00
  | .noLane => 0x01
  | .recipeEmpty => 0x02
  | .length => 0x03
  | .noContext => 0x04
  | .noActive => 0x05
  | .held => 0x06
  | .direction => 0x07
  | .recipeDenied => 0x08
  | .exhausted => 0x09
  | .framing => 0x0A
  | .malformed => 0x0B
  | .verifyFail => 0x0C
  | .stale => 0x0D
  | .aborted => 0x0E
  | .faulted => 0x0F

/-- Table 10-8, row Context state, FREE apart. -/
def ctxStateByte : CtxState → Byte
  | .loading => 0x01
  | .standby => 0x02
  | .active => 0x03
  | .draining => 0x04
  | .retiring => 0x05
  | .quarantined => 0x06

/-- The state byte of a slot: 00h when FREE (Table 10-8). -/
def slotStateByte : Option Context → Byte
  | none => 0x00
  | some c => ctxStateByte c.state

/-- Places use 02h–04h (Table 10-8). -/
def placeByte : Place → Byte
  | .standby => 0x02
  | .active => 0x03
  | .draining => 0x04

/-- Table 10-8, row Role: 00h ACTIVE, 01h STANDBY; true is STANDBY. -/
def roleOf (b : Byte) : Option Bool :=
  if b = 0x00 then some false else if b = 0x01 then some true else none

/-- Table 10-8: 00h 128, 01h 256. -/
def keyWidthOf (b : Byte) : Option KeyWidth :=
  if b = 0x00 then some .w128 else if b = 0x01 then some .w256 else none

/-- Table 10-8: 00h 128, 01h 256. -/
def keyWidthByte : KeyWidth → Byte
  | .w128 => 0x00
  | .w256 => 0x01

/-- Table 10-8: 00h PROTECT_ONLY, 01h ADMIT_ONLY, 02h BOTH. -/
def dirPermOf (b : Byte) : Option DirPerm :=
  if b = 0x00 then some .protectOnly else if b = 0x01 then some .admitOnly else if b = 0x02 then some .both else none

/-- Table 10-8: 00h PROTECT_ONLY, 01h ADMIT_ONLY, 02h BOTH. -/
def dirPermByte : DirPerm → Byte
  | .protectOnly => 0x00
  | .admitOnly => 0x01
  | .both => 0x02

/-- The flags byte: bit 0 PEER_ROLL, bit 1 LIFE_ROLL, bit 2 VERIFY_HOLD, no other bit (Table 10-7, R195). -/
def ctxFlagsOf (b : Byte) : Option CtxFlags :=
  if b.toNat < 8 then some ⟨b.getLsbD 0, b.getLsbD 1, b.getLsbD 2⟩ else none

/-- The flags byte of Table 10-7. -/
def ctxFlagsByte (f : CtxFlags) : Byte :=
  BitVec.ofNat 8 ((if f.peerRoll then 1 else 0) + (if f.lifeRoll then 2 else 0) + (if f.verifyHold then 4 else 0))

/-- Table 10-8, row Step kind. -/
def stepKindOf (b : Byte) : Option StepKind :=
  if b = 0x01 then some .header
  else if b = 0x02 then some .clear
  else if b = 0x03 then some .cipher
  else if b = 0x04 then some .skip
  else if b = 0x05 then some .strip
  else if b = 0x06 then some .tag
  else none

/-- Table 10-8, row Step kind. -/
def stepKindByte : StepKind → Byte
  | .header => 0x01
  | .clear => 0x02
  | .cipher => 0x03
  | .skip => 0x04
  | .strip => 0x05
  | .tag => 0x06

/-- The tag length of a recipe in bytes (Table 3-1). -/
def tagLenNat : TagLen → Nat
  | .t8 => 8
  | .t12 => 12
  | .t16 => 16

/-- A tag length byte: 8, 12 or 16 (R59). -/
def tagLenOf (b : Byte) : Option TagLen :=
  if b = 8 then some .t8 else if b = 12 then some .t12 else if b = 16 then some .t16 else none

/-- The tag-length code of the stream header's control byte (Table 10-6). -/
def tagLenCode : TagLen → BitVec 2
  | .t8 => 0b00
  | .t12 => 0b01
  | .t16 => 0b10

/-- Table 10-8, row Condition class. -/
def condClassByte : CondClass → Byte
  | .recordCheck => 0x01
  | .verifyLimit => 0x02
  | .lifeLow => 0x03
  | .lifeExhausted => 0x04
  | .rollover => 0x05
  | .drained => 0x06
  | .laneFault => 0x07
  | .framesLost => 0x08

/-- The class as a set of one member (Table 10-8, "bit of the class set"). -/
def condClassBit : CondClass → BitVec 8
  | .recordCheck => 0x01
  | .verifyLimit => 0x02
  | .lifeLow => 0x04
  | .lifeExhausted => 0x08
  | .rollover => 0x10
  | .drained => 0x20
  | .laneFault => 0x40
  | .framesLost => 0x80

/-- Table 10-8, row Phase. -/
def condPhaseByte : CondPhase → Byte
  | .dispatch => 0x00
  | .keyFetch => 0x01
  | .header => 0x02
  | .body => 0x03
  | .tag => 0x04
  | .release => 0x05
  | .command => 0x06
  | .timer => 0x07

/-- Table 10-8: lane 00h A, 01h B. -/
def laneByte : LaneId → Byte
  | .laneA => 0x00
  | .laneB => 0x01

/-- Table 10-8: lane 00h A, 01h B. -/
def laneOf (b : Byte) : Option LaneId :=
  if b = 0x00 then some .laneA else if b = 0x01 then some .laneB else none

/-- Table 10-8: group 00h KEY, 01h COUNTERS, 02h SETTINGS. -/
def groupByte : CheckGroup → Byte
  | .key => 0x00
  | .counters => 0x01
  | .settings => 0x02

/-- Table 10-8: reason 00h PEER, 01h LIFE, 02h BUDGET, 03h TIMER. -/
def reasonByte : Reason → Byte
  | .peer => 0x00
  | .life => 0x01
  | .budget => 0x02
  | .timer => 0x03

/-- Table 10-8: ending 00h NONE, 01h FINISHED, 02h CUT, 03h DISCARDED. -/
def endingByte : Ending → Byte
  | .noEnding => 0x00
  | .finished => 0x01
  | .cut => 0x02
  | .discarded => 0x03

/-- A slot number as a reported byte (Table 10-9). -/
def slotByte (k : SlotNo) : Byte := BitVec.ofNat 8 k.val

/-- Table 10-8, row Anchor state. -/
def anchorStateByte : AnchorState → Byte
  | .blank => 0x00
  | .programmed => 0x01
  | .revoked => 0x02
  | .defective => 0x03

/-- The marker of a generation: generation modulo 2 (R29). -/
def markerOf (generation : Byte) : Bool := generation.getLsbD 0

/-- The marker of a context (Table 1-1). -/
def Context.marker (c : Context) : Bool := markerOf c.generation

/-- The final verdict of an ENDED entry (section 6.3). -/
def endVerdict : EndVerdict → Verdict
  | .framing => .framing
  | .aborted => .aborted
  | .faulted => .faulted

/-- The phase a lane fault reports, when the frame in WORK is PROCESSING; a DONE frame finds no fault (R97, R107). -/
def faultPhase : WorkPhase → Option CondPhase
  | .keyFetch => some .keyFetch
  | .header => some .header
  | .body => some .body
  | .tag => some .tag
  | .done _ => none

end Sys2Proof.Machine
end

