-- ==== Sys2Proof/Machine/Ops.lean ====
section
/-! DEFINITION. The named operations that the steps share: reading and writing each block's items, raising and
collecting conditions, entry to FREE, ending jobs, damage and the record check, and the Command Unit's Start and
posting. -/

namespace Sys2Proof.Machine

/-! ## Items of the blocks -/

/-- The Context Record of a slot; none is FREE (R1). -/
def State.slot (s : State) (k : SlotNo) : Option Context := s.slots[k]

/-- Give a slot a Context Record, or none. -/
def State.setSlot (s : State) (k : SlotNo) (c : Option Context) : State := { s with slots := s.slots.set k c }

/-- Change the fields of a slot's record, if it has one. -/
def State.updateSlot (s : State) (k : SlotNo) (f : Context → Context) : State := s.setSlot k ((s.slot k).map f)

/-- The slot is in the given state. -/
def State.slotIs (s : State) (k : SlotNo) (x : CtxState) : Bool :=
  match s.slot k with
  | some c => c.state == x
  | none => false

/-- The Condition Record of a slot, if it has one (R136). -/
def State.cond (s : State) (k : SlotNo) : Option CondRecord := s.conds[k]

/-- Give a slot a Condition Record, or none. -/
def State.setCond (s : State) (k : SlotNo) (r : Option CondRecord) : State := { s with conds := s.conds.set k r }

/-- A recipe of the Recipe Table. -/
def State.recipe (s : State) (n : RecipeNo) : Recipe := s.recipes[n]

/-- Replace a recipe. -/
def State.setRecipe (s : State) (n : RecipeNo) (r : Recipe) : State := { s with recipes := s.recipes.set n r }

/-- A lane. -/
def State.lane (s : State) : LaneId → Lane
  | .laneA => s.laneA
  | .laneB => s.laneB

/-- Replace a lane. -/
def State.setLane (s : State) (l : LaneId) (x : Lane) : State :=
  match l with
  | .laneA => { s with laneA := x }
  | .laneB => { s with laneB := x }

/-- An anchor of the Anchor Store. -/
def State.anchor (s : State) (a : AnchorNo) : Anchor := s.anchors[a]

/-- Replace an anchor. -/
def State.setAnchor (s : State) (a : AnchorNo) (x : Anchor) : State := { s with anchors := s.anchors.set a x }

/-- A lock range of the Lock Unit; none is unused (R184). -/
def State.lockRange (s : State) (n : RangeNo) : Option LockRange := s.locks[n]

/-- Replace a lock range. -/
def State.setLockRange (s : State) (n : RangeNo) (r : Option LockRange) : State := { s with locks := s.locks.set n r }

/-- The part takes events only when start-up has ended and RST# is released (R196); until then a step changes
nothing. -/
def whenRunning (f : State → State) (s : State) : State := if s.power = .running then f s else s

/-- The lowest-numbered FREE slot (R1). -/
def firstFree (s : State) : Option SlotNo := (List.finRange 256).find? fun k => (s.slot k).isNone

/-- The states in which a record is read with the record check, and in which release applies its effects (R2, R22). -/
def CtxState.live : CtxState → Bool
  | .standby | .active | .draining | .retiring => true
  | .loading | .quarantined => false

/-! ## Lanes and the acceptance condition -/

/-- The lane is one the Lane Arbiter may choose: ONLINE with an empty STAGE (R85). -/
def Lane.qualifies (l : Lane) : Bool := l.state == .online && l.stage.isNone

/-- Some lane is ONLINE (R77). -/
def anyOnline (s : State) : Bool := s.laneA.state == .online || s.laneB.state == .online

/-- The acceptance condition of the Frame Intake (R75, R114). -/
def accepting (s : State) : Bool :=
  decide (s.queue.length < 8) && (s.laneA.qualifies || s.laneB.qualifies || !anyOnline s)

/-! ## Conditions (chapter 7) -/

/-- A raise: its class, whether it is hold-class, and the field values of Table 7-2 (R137). -/
structure Raise where
  cls : CondClass
  hold : Bool := false
  phase : Option CondPhase := none
  lane : Option LaneId := none
  seq : Option SeqNo := none
  group : Option CheckGroup := none
  reason : Option Reason := none
  ancillary : Bool := false
  deriving DecidableEq, Repr

/-- The record a raise creates (R138). -/
def newRecord (r : Raise) : CondRecord where
  primary := r.cls
  classes := condClassBit r.cls
  overlap := 0
  holding := r.hold
  phase := r.phase
  lane := r.lane
  seq := r.seq
  group := r.group
  reason := r.reason
  ancillary := r.ancillary
  ending := .noEnding

/-- A raise merged into a record: the class joins, the overlap count rises to at most 15, a hold stays (R139). -/
def mergeRaise (c : CondRecord) (r : Raise) : CondRecord :=
  { c with classes := c.classes ||| condClassBit r.cls, overlap := min 15 (c.overlap + 1), holding := c.holding || r.hold }

/-- Conditions are raised on slots in STANDBY, ACTIVE, DRAINING, RETIRING and QUARANTINED, never on a FREE or LOADING
one (R137). -/
def raisable (s : State) (k : SlotNo) : Bool :=
  match s.slot k with
  | some c => c.state != .loading
  | none => false

/-- Raise a condition on a slot: create its record and append it to the Attention Queue (R138, R144), or merge
(R139). -/
def raiseOn (r : Raise) (k : SlotNo) (s : State) : State :=
  if raisable s k then
    match s.cond k with
    | none => { s.setCond k (some (newRecord r)) with attention := s.attention ++ [k] }
    | some c => s.setCond k (some (mergeRaise c r))
  else s

/-- Severity of an ending, least first (R141). -/
def severity : Ending → Nat
  | .noEnding => 0
  | .finished => 1
  | .cut => 2
  | .discarded => 3

/-- The more severe of two endings (R141). -/
def worse (a b : Ending) : Ending := if severity a < severity b then b else a

/-- Apply an ending to the record a slot has, if any (R141). -/
def applyEnding (e : Ending) (k : SlotNo) (s : State) : State :=
  s.setCond k ((s.cond k).map fun c => { c with ending := worse c.ending e })

/-- Delete a slot's record and take the slot from the Attention Queue, the others keeping their order (R144). -/
def deleteCond (k : SlotNo) (s : State) : State :=
  { s.setCond k none with attention := s.attention.filter fun j => j != k }

/-- Entry to FREE: record, key, tag, timer and Condition Record go (R5). -/
def freeSlot (k : SlotNo) (s : State) : State := (deleteCond k s).setSlot k none

/-- The slot's record holds it (R80, R140). -/
def heldByRecord (s : State) (k : SlotNo) : Bool :=
  match s.cond k with
  | some c => c.holding
  | none => false

/-! ## Ending jobs (section 5.3) -/

/-- The entry with status ENDED, if it is a LANE entry of one of the jobs and not ENDED already (R104, R115). -/
def endEntry (ids : List Nat) (v : EndVerdict) : Entry → Entry
  | .lane e =>
    match e.status with
    | .ended _ => .lane e
    | .pending | .finished _ _ => if ids.contains e.job.id then .lane { e with status := .ended v } else .lane e
  | .refused e => .refused e

/-- A lane without the frames of the jobs, with every byte and key they hold (R104). -/
def Lane.dropJobs (ids : List Nat) (l : Lane) : Lane where
  state := l.state
  stage := l.stage.filter fun f => !ids.contains f.job.id
  work := l.work.filter fun f => !ids.contains f.job.id
  out := l.out.filter fun f => !ids.contains f.job.id

/-- The intake after the jobs are ended: DISCARDING if it was streaming one of them (R90). -/
def dropStreaming (ids : List Nat) : Intake → Intake
  | .streaming j l n => if ids.contains j.id then .discarding else .streaming j l n
  | i => i

/-- End jobs at their lanes: entries, positions and intake together (R90, R104). -/
def endJobs (ids : List Nat) (v : EndVerdict) (s : State) : State :=
  { s with
    queue := s.queue.map (endEntry ids v)
    laneA := s.laneA.dropJobs ids
    laneB := s.laneB.dropJobs ids
    intake := dropStreaming ids s.intake }

/-- The job of an unreleased LANE entry that names the slot and is not ENDED. -/
def openJob (k : SlotNo) : Entry → Option Nat
  | .lane e =>
    match e.status with
    | .ended _ => none
    | .pending | .finished _ _ => if e.job.slot = k then some e.job.id else none
  | .refused _ => none

/-- The jobs of the unreleased LANE entries naming a slot that are not ENDED (R23). -/
def openJobs (k : SlotNo) (s : State) : List Nat := s.queue.filterMap (openJob k)

/-! ## Record check and quarantine (section 1.11) -/

/-- Mark one group of one slot's record as damaged. Only the agreement of the group's check value is lost: every field
of the group keeps the value it had, and the QUARANTINED slot then keeps that one (R24), which QUERY reports. R22 gives
no value for a damaged field: DESIGN CHOICE, unsafe (assumption 3). -/
def damageOne (s : State) (d : Damage) : State :=
  s.updateSlot d.slot fun c =>
    { c with checks :=
        match d.group with
        | .key => { c.checks with keyOk := false }
        | .counters => { c.checks with countersOk := false }
        | .settings => { c.checks with settingsOk := false } }

/-- Damage that has come about before a read (assumption 3). -/
def damage (ds : List Damage) (s : State) : State := ds.foldl damageOne s

/-- The failing group of a record, the first of KEY, COUNTERS and SETTINGS that disagrees, in the states the check is
made in (R22). -/
def failingGroup (c : Context) : Option CheckGroup :=
  if c.state.live then
    if !c.checks.keyOk then some .key
    else if !c.checks.countersOk then some .counters
    else if !c.checks.settingsOk then some .settings
    else none
  else none

/-- QUARANTINED, key cleared, drain timer stopped (R23). -/
def quarantinedContext (c : Context) : Context := { c with state := .quarantined, key := none, timerRuns := false }

/-- A record check failure on a slot: quarantine, every unreleased LANE entry naming it ended ABORTED, RECORD_CHECK
raised with ending CUT (R23, R105). -/
def quarantine (phase : CondPhase) (seq : Option SeqNo) (g : CheckGroup) (k : SlotNo) (s : State) : State :=
  applyEnding .cut k
    (raiseOn { cls := .recordCheck, hold := true, phase := some phase, seq := seq, group := some g } k
      (endJobs (openJobs k s) .aborted (s.updateSlot k quarantinedContext)))

/-- The record check at a read of a slot's record (R22). -/
def recordCheck (phase : CondPhase) (seq : Option SeqNo) (k : SlotNo) (s : State) : State :=
  match (s.slot k).bind failingGroup with
  | some g => quarantine phase seq g k s
  | none => s

/-! ## The Command Unit's Start and completion (sections 8.1 and 8.2) -/

/-- Complete a command: result code, command code and reported fields into the Result Block, zero beyond them;
COMMAND_DONE set; IDLE; one change (R156, R195). -/
def post (c : CommandCopy) (r : ResultCode) (fields : List Byte) (s : State) : State :=
  { s with resultBlock := blockOf (resultByte r :: c.code :: fields), commandDone := true, unit := .idle }

/-- The copy a Start takes: code, the 96 bytes, the level of LOCK# (R154). -/
def copyAtStart (code : Byte) (s : State) : CommandCopy := ⟨code, s.commandBlock, s.lockLine⟩

/-- A command code written to Start: ignored until start-up has ended (R175, R196); refused while EXECUTING (R155);
else the copy is taken, COMMAND_DONE cleared, and the command executed from the copy (R154). R157 lets the event of a
one-event command be taken at the Start or directly after it; here it is always taken at the Start, so that the unit
shows EXECUTING for INSTALL, SUCCEED, PROGRAM_ANCHOR and REVOKE_ANCHOR only: DESIGN CHOICE, unsafe (assumption 37). -/
def writeStart (code : Byte) (run : CommandCopy → State → State) (s : State) : State :=
  if s.power ≠ .running then s
  else if s.unit ≠ .idle then { s with startRefused := true }
  else run (copyAtStart code s) { s with copy := some (copyAtStart code s), commandDone := false }

/-- The lock-line check of a guarded command (R159): LOCK_LINE with the given report, or the command goes on. -/
def guarded (c : CommandCopy) (report : List Byte) (go : State → State) (s : State) : State :=
  if c.lockAsserted then post c .lockLine report s else go s

/-- A tag lies in a lock range in use (R160). -/
def inRange (t : Tag) : Option LockRange → Bool
  | some r => decide (r.low ≤ t) && decide (t ≤ r.high)
  | none => false

/-- A tag lies in one of the four lock ranges (R160). -/
def tagLocked (s : State) (t : Tag) : Bool := s.locks.toList.any (inRange t)

/-- The named slot's tag lies in a lock range; a FREE slot holds no tag (R160). -/
def slotLocked (s : State) (k : SlotNo) : Bool :=
  match s.slot k with
  | some c => tagLocked s c.tag
  | none => false

end Sys2Proof.Machine
end

