-- ==== Sys2Proof/Machine/Directory.lean ====
section
/-! DEFINITION. The Tag Directory, and the changes of context state that go with it: binding and unbinding, retire,
drain end and roll-over (sections 1.9, 1.10, 2.1 to 2.5). -/

namespace Sys2Proof.Machine

/-! ## The map from tags to entries -/

/-- No slot in any place. -/
def DirEntry.empty : DirEntry := ⟨none, none, none⟩

/-- The entry a directory holds for a tag; an unknown tag has the empty one (R27). -/
def dirLookup : List (Tag × DirEntry) → Tag → DirEntry
  | [], _ => DirEntry.empty
  | (t, e) :: d, u => if u = t then e else dirLookup d u

/-- Put an entry in front, unless it is empty: an entry exists while at least one slot is bound (R27). -/
def dirCons (t : Tag) (e : DirEntry) (d : List (Tag × DirEntry)) : List (Tag × DirEntry) :=
  if e = DirEntry.empty then d else (t, e) :: d

/-- The directory with the entry of one tag replaced, tags rising, no empty entry (R27). -/
def dirStore : List (Tag × DirEntry) → Tag → DirEntry → List (Tag × DirEntry)
  | [], u, e => dirCons u e []
  | (t, x) :: d, u, e =>
    if u < t then dirCons u e ((t, x) :: d)
    else if u = t then dirCons u e d
    else (t, x) :: dirStore d u e

/-- The entry of a tag. -/
def State.entry (s : State) (t : Tag) : DirEntry := dirLookup s.dir t

/-- Replace the entry of a tag. -/
def State.setEntry (s : State) (t : Tag) (e : DirEntry) : State := { s with dir := dirStore s.dir t e }

/-- The bound slots of an entry with their places, in the order ACTIVE, STANDBY, DRAINING (R48). -/
def DirEntry.bound (e : DirEntry) : List (SlotNo × Place) :=
  (e.active.map fun k => (k, Place.active)).toList ++ (e.standby.map fun k => (k, Place.standby)).toList
    ++ (e.draining.map fun k => (k, Place.draining)).toList

/-- The place a slot holds in an entry, if it is bound there. -/
def DirEntry.placeOf (e : DirEntry) (k : SlotNo) : Option Place :=
  (e.bound.find? fun b => b.1 == k).map fun b => b.2

/-- The entry without a slot (R32). -/
def DirEntry.without (e : DirEntry) (k : SlotNo) : DirEntry where
  active := e.active.filter fun j => j != k
  standby := e.standby.filter fun j => j != k
  draining := e.draining.filter fun j => j != k

/-- The entry with a slot in place ACTIVE, or in place STANDBY (R31). -/
def DirEntry.withRole (e : DirEntry) (standby : Bool) (k : SlotNo) : DirEntry :=
  if standby then { e with standby := some k } else { e with active := some k }

/-- The place a slot holds in its tag's entry. -/
def placeInDir (s : State) (k : SlotNo) : Option Place :=
  match s.slot k with
  | some c => (s.entry c.tag).placeOf k
  | none => none

/-- Unbind a slot from a tag: the other slot keeps its place; the entry goes with its last slot (R32). -/
def unbind (t : Tag) (k : SlotNo) (s : State) : State := s.setEntry t ((s.entry t).without k)

/-- The marker of a bound slot, read from its Context Record (R27). -/
def slotMarker (s : State) (k : SlotNo) : Option Bool := (s.slot k).map Context.marker

/-- The admission test for a marker and a requested place, ACTIVE or STANDBY (R30): none when it passes. -/
def admissionTest (s : State) (t : Tag) (standby : Bool) (marker : Bool) : Option ResultCode :=
  let e := s.entry t
  if 2 ≤ e.bound.length then some .tagFull
  else if (if standby then e.standby else e.active).isSome then some .roleTaken
  else if e.bound.any fun b => slotMarker s b.1 == some marker then some .generationClash
  else none

/-- Bind the LOADING slot in the requested place and give it the state of its place, in one change (R31). -/
def bindSlot (t : Tag) (standby : Bool) (k : SlotNo) (s : State) : State :=
  (s.updateSlot k fun c => { c with state := if standby then .standby else .active }).setEntry t
    ((s.entry t).withRole standby k)

/-! ## Retire and drain end -/

/-- Retire of a bound slot: unbound, timer stopped, RETIRING with frames in flight, else FREE (R17). -/
def retireSlot (k : SlotNo) (s : State) : State :=
  match s.slot k with
  | some c =>
    if c.inFlight = 0 then freeSlot k (unbind c.tag k s)
    else (unbind c.tag k s).updateSlot k fun c => { c with state := .retiring, timerRuns := false }
  | none => s

/-- The tag's ACTIVE slot: the slot in place ACTIVE, in state ACTIVE (assumption 19). -/
def activeOf (s : State) (t : Tag) : Option SlotNo := (s.entry t).active.filter fun k => s.slotIs k .active

/-- Raise on a slot, if there is one. -/
def raiseOnSome (r : Raise) (k : Option SlotNo) (s : State) : State :=
  match k with
  | some k => raiseOn r k s
  | none => s

/-- Drain end of a DRAINING slot: retire, then DRAINED on the tag's ACTIVE slot, if it has one (R21). -/
def drainEnd (reason : Reason) (phase : CondPhase) (seq : Option SeqNo) (k : SlotNo) (s : State) : State :=
  match s.slot k with
  | some c =>
    if c.state = .draining then
      raiseOnSome { cls := .drained, phase := some phase, seq := seq, reason := some reason }
        (activeOf (retireSlot k s) c.tag) (retireSlot k s)
    else s
  | none => s

/-! ## Roll-over -/

/-- The other slot bound to the tag (R37). -/
def partnerOf (s : State) (t : Tag) (k : SlotNo) : Option SlotNo :=
  (((s.entry t).bound.find? fun b => b.1 != k).map fun b => b.1)

/-- The record after a roll-over that takes it from ACTIVE to DRAINING: progress 0, timer loaded, started if the drain
time is not 0 (R19, R37). -/
def toDraining (c : Context) : Context :=
  { c with
    state := .draining
    drainProgress := 0
    timerLeft := c.settings.drainTime
    timerRuns := c.settings.drainTime != 0 }

/-- The former partner after a roll-over: an ACTIVE becomes DRAINING; a DRAINING or QUARANTINED one keeps its record
(R37). -/
def demote (c : Context) : Context := if c.state = .active then toDraining c else c

/-- The named slot after a roll-over (R37). -/
def promote (c : Context) : Context := { c with state := .active }

/-- The pair after a roll-over of the slot: it holds place ACTIVE, and the partner that held ACTIVE, or that held
DRAINING, holds DRAINING (Table 2-3). -/
def DirEntry.rolled (e : DirEntry) (k : SlotNo) : DirEntry where
  active := some k
  standby := e.standby.filter fun j => j != k
  draining := (e.active.filter fun j => j != k).or e.draining

/-- Change a slot's record, if there is a slot. -/
def updateSome (k : Option SlotNo) (f : Context → Context) (s : State) : State :=
  match k with
  | some k => s.updateSlot k f
  | none => s

/-- The roll-over of R37 on a slot in state STANDBY whose reads passed, both slots in one change. -/
def swapRoles (t : Tag) (k : SlotNo) (s : State) : State :=
  ((updateSome (partnerOf s t k) demote s).updateSlot k promote).setEntry t ((s.entry t).rolled k)

/-- The record check on a slot, if there is one. -/
def recordCheckSome (phase : CondPhase) (seq : Option SeqNo) (k : Option SlotNo) (s : State) : State :=
  match k with
  | some k => recordCheck phase seq k s
  | none => s

/-- Roll-over with its reads: both records are checked under the invoking rule's phase, the named STANDBY first; if the
STANDBY fails no roll-over is made, and if only the partner fails it goes on with a QUARANTINED partner (R38). It was
made exactly if the slot is ACTIVE afterwards; on a slot that is not STANDBY it makes no change (R37). -/
def rollOver (phase : CondPhase) (seq : Option SeqNo) (k : SlotNo) (s : State) : State :=
  match s.slot k with
  | some c =>
    if c.state = .standby then
      let s' := recordCheckSome phase seq (partnerOf s c.tag k) (recordCheck phase seq k s)
      if s'.slotIs k .standby then swapRoles c.tag k s' else s'
    else s
  | none => s

end Sys2Proof.Machine
end

