-- ==== Sys2Proof/Machine/Operands.lean ====
section
/-! DEFINITION. The fields commands and Job Headers carry, read from their bits and checked against their ranges
(R158, R195, Tables 10-4 and 10-7). A reader answers none for a field out of range: BAD_FIELD. -/

namespace Sys2Proof.Machine

/-! ## Job Header (Table 10-4) -/

/-- The fields of a Job Header (Table 4-1). -/
structure JobHeader where
  tag : Tag
  recipe : RecipeNo
  dir : Direction
  marker : Bool
  inLen : Nat
  deriving DecidableEq, Repr

/-- The two words of a Job Header (Table 10-4). -/
def jobHeaderOf (w0 w1 : Word) : JobHeader where
  tag := (w0 >>> 16).setWidth 16
  recipe := ⟨((w0 >>> 12).setWidth 4).toNat, ((w0 >>> 12).setWidth 4).isLt⟩
  dir := if w0.getLsbD 11 then .toAdmit else .toProtect
  marker := w0.getLsbD 10
  inLen := (w1 >>> 20).toNat

/-! ## Slots, indexes and single fields -/

/-- A slot field: one byte, every value in range (R158). -/
def slotAt (b : Block) (off : Nat) : SlotNo := ⟨(byteAt b off).toNat, (byteAt b off).isLt⟩

/-- An index byte below a bound, else BAD_FIELD. -/
def indexAt (b : Block) (off n : Nat) : Option (Fin n) :=
  if h : (byteAt b off).toNat < n then some ⟨(byteAt b off).toNat, h⟩ else none

/-- A tag field in use, 1–65535. -/
def tagAt (b : Block) (off : Nat) : Option Tag :=
  if wordAt b off 2 16 = 0 then none else some (wordAt b off 2 16)

/-- Allowed recipes: a non-empty set (Table 8-4). -/
def recipesAt (b : Block) (off : Nat) : Option (BitVec 16) :=
  if wordAt b off 2 16 = 0 then none else some (wordAt b off 2 16)

/-- A sequence ceiling, 1 to 2^48−2 (Table 8-4). -/
def ceilingAt (b : Block) (off : Nat) : Option SeqNo :=
  if 1 ≤ fieldAt b off 6 ∧ fieldAt b off 6 ≤ 2 ^ 48 - 2 then some (wordAt b off 6 48) else none

/-- A byte life, 1 to 2^40−1 (Table 8-4). -/
def lifeAt (b : Block) (off : Nat) : Option ByteLife :=
  if wordAt b off 5 40 = 0 then none else some (wordAt b off 5 40)

/-- A wrapped key of the given width, from offset 24h (Table 10-7), unwrapped under an anchor key (R178). -/
def unwrapAt (b : Block) (w : KeyWidth) (anchorKey : AnchorKey) : Option ContextKey :=
  match w with
  | .w128 => (Config.unwrap128 anchorKey (wordAt b 0x24 24 192)).map .k128
  | .w256 => (Config.unwrap256 anchorKey (wordAt b 0x24 40 320)).map .k256

/-! ## INSTALL, SUCCEED and MODIFY -/

/-- The fields an install gives its slot (R3). -/
structure NewContext where
  tag : Tag
  generation : Byte
  anchor : AnchorNo
  keyWidth : KeyWidth
  salt : Word
  settings : Settings
  life : ByteLife
  deriving DecidableEq, Repr

/-- The settings of an INSTALL Command Block (Table 10-7); the low-life mark is compared with the byte life by the
caller. -/
def settingsAt (b : Block) : Option Settings := do
  let direction ← dirPermOf (byteAt b 0x06)
  let flags ← ctxFlagsOf (byteAt b 0x07)
  let recipes ← recipesAt b 0x08
  let ceiling ← ceilingAt b 0x10
  return {
    direction := direction
    recipes := recipes
    flags := flags
    ceiling := ceiling
    lowMark := wordAt b 0x1B 5 40
    verifyLimit := byteAt b 0x0A
    drainBudget := wordAt b 0x20 2 16
    drainTime := wordAt b 0x22 2 16 }

/-- The fields of an INSTALL Command Block with the requested role, true for STANDBY; none when one is out of range or
the low-life mark is above the byte life (R162 check 2, Table 8-4). -/
def installAt (b : Block) : Option (NewContext × Bool) := do
  let tag ← tagAt b 0x00
  let standby ← roleOf (byteAt b 0x02)
  let anchor ← indexAt b 0x04 8
  let keyWidth ← keyWidthOf (byteAt b 0x05)
  let settings ← settingsAt b
  let life ← lifeAt b 0x16
  if settings.lowMark ≤ life then
    return ({
      tag := tag
      generation := byteAt b 0x03
      anchor := anchor
      keyWidth := keyWidth
      salt := wordAt b 0x0C 4 32
      settings := settings
      life := life }, standby)
  else none

/-- A field under its mask bit: not examined when the bit is clear (R158), out of range if its reader says so. -/
def masked {α : Type} (bit : Bool) (field : Option α) : Option (Option α) :=
  if bit then field.map some else some none

/-- The settings fields a mask selects. -/
structure SettingChanges where
  direction : Option DirPerm
  recipes : Option (BitVec 16)
  flags : Option CtxFlags
  ceiling : Option SeqNo
  lowMark : Option ByteLife
  verifyLimit : Option Byte
  drainBudget : Option (BitVec 16)
  drainTime : Option (BitVec 16)
  deriving DecidableEq, Repr

/-- The settings with the selected fields changed, together (R171). -/
def SettingChanges.apply (c : SettingChanges) (s : Settings) : Settings where
  direction := c.direction.getD s.direction
  recipes := c.recipes.getD s.recipes
  flags := c.flags.getD s.flags
  ceiling := c.ceiling.getD s.ceiling
  lowMark := c.lowMark.getD s.lowMark
  verifyLimit := c.verifyLimit.getD s.verifyLimit
  drainBudget := c.drainBudget.getD s.drainBudget
  drainTime := c.drainTime.getD s.drainTime

/-- The selected settings fields, read at the INSTALL offsets (notes to Tables 10-7 and 8-5); each argument is the mask
bit of its field. -/
def changesAt (b : Block) (direction recipes flags ceiling lowMark verifyLimit drainBudget drainTime : Bool) :
    Option SettingChanges := do
  let d ← masked direction (dirPermOf (byteAt b 0x06))
  let r ← masked recipes (recipesAt b 0x08)
  let f ← masked flags (ctxFlagsOf (byteAt b 0x07))
  let c ← masked ceiling (ceilingAt b 0x10)
  return {
    direction := d
    recipes := r
    flags := f
    ceiling := c
    lowMark := if lowMark then some (wordAt b 0x1B 5 40) else none
    verifyLimit := if verifyLimit then some (byteAt b 0x0A) else none
    drainBudget := if drainBudget then some (wordAt b 0x20 2 16) else none
    drainTime := if drainTime then some (wordAt b 0x22 2 16) else none }

/-- The mask of MODIFY at offset 01, bits 0 to 7 in the order of Table 8-5. -/
def modifyChangesAt (b : Block) : Option SettingChanges :=
  let m := byteAt b 0x01
  changesAt b (direction := m.getLsbD 0) (recipes := m.getLsbD 1) (flags := m.getLsbD 2) (ceiling := m.getLsbD 7)
    (lowMark := m.getLsbD 4) (verifyLimit := m.getLsbD 3) (drainBudget := m.getLsbD 5) (drainTime := m.getLsbD 6)

/-- The override fields of SUCCEED (R166). -/
structure Overrides where
  anchor : Option AnchorNo
  keyWidth : Option KeyWidth
  life : Option ByteLife
  settings : SettingChanges
  deriving DecidableEq, Repr

/-- The override mask of SUCCEED at offsets 01–02, bits 0 to 10 in the order of R166, and its fields; none when a
selected one is out of range (R166 check 2). -/
def overridesAt (b : Block) : Option Overrides := do
  let m := wordAt b 0x01 2 16
  let anchor ← masked (m.getLsbD 0) (indexAt b 0x04 8)
  let keyWidth ← masked (m.getLsbD 1) (keyWidthOf (byteAt b 0x05))
  let life ← masked (m.getLsbD 6) (lifeAt b 0x16)
  let settings ← changesAt b (direction := m.getLsbD 2) (recipes := m.getLsbD 3) (flags := m.getLsbD 4)
    (ceiling := m.getLsbD 5) (lowMark := m.getLsbD 7) (verifyLimit := m.getLsbD 8) (drainBudget := m.getLsbD 9)
    (drainTime := m.getLsbD 10)
  return { anchor := anchor, keyWidth := keyWidth, life := life, settings := settings }

/-- The next generation's fields: each from its override or copied from the named ACTIVE; generation plus 1 modulo 256;
byte life that of the ACTIVE installed, not its remainder (R166 check 5, R167). -/
def successor (b : Block) (o : Overrides) (c : Context) : NewContext where
  tag := c.tag
  generation := c.generation + 1
  anchor := o.anchor.getD c.anchor
  keyWidth := o.keyWidth.getD c.keyWidth
  salt := wordAt b 0x0C 4 32
  settings := o.settings.apply c.settings
  life := o.life.getD c.lifeInstalled

/-- The record a slot takes on entry to LOADING: the command's fields, and the "After install" column of Table 1-1 for
the others (R3). -/
def NewContext.loading (n : NewContext) : Context where
  state := .loading
  tag := n.tag
  generation := n.generation
  anchor := n.anchor
  keyWidth := n.keyWidth
  key := none
  salt := n.salt
  settings := n.settings
  nextSeq := 1
  lifeInstalled := n.life
  lifeLeft := n.life
  lowReported := false
  spent := false
  watermark := 0
  verifyFailures := 0
  drainProgress := 0
  timerLeft := 0
  timerRuns := false
  inFlight := 0
  framesProtected := 0
  framesAdmitted := 0
  framesRefused := 0
  checks := ⟨true, true, true⟩

/-! ## Recipe definitions (Table 3-4) -/

/-- A step's kind and length field: kinds HEADER and TAG are not examined for their length, the others take 1 to 2048
or FFFFh for REST (R59 check 3). HEADER is 10 bytes and TAG the tag length, whatever the field holds (R52). -/
def stepOf (tagLen : TagLen) (kind : Byte) (len : Nat) : Option Step := do
  match ← stepKindOf kind with
  | .header => return ⟨.header, .fixed 10⟩
  | .tag => return ⟨.tag, .fixed (tagLenNat tagLen)⟩
  | k =>
    if len = 0xFFFF then return ⟨k, .rest⟩
    else if 1 ≤ len ∧ len ≤ 2048 then return ⟨k, .fixed len⟩
    else none

/-- The first `n` step entries of a WRITE_RECIPE block, 4 bytes each from offset 06 (note to Table 10-7). -/
def stepsAt (tagLen : TagLen) (b : Block) (n : Nat) : Option (List Step) :=
  (List.range n).mapM fun i => stepOf tagLen (byteAt b (6 + 4 * i)) (fieldAt b (6 + 4 * i + 2) 2)

/-- A maximum input length, 16 to 2048 (R59 check 1). -/
def maxInputAt (b : Block) : Option Nat :=
  if 16 ≤ fieldAt b 0x04 2 ∧ fieldAt b 0x04 2 ≤ 2048 then some (fieldAt b 0x04 2) else none

end Sys2Proof.Machine
end

