-- ==== Sys2Proof/Machine/Recipes.lean ====
section
/-! DEFINITION. Recipes: validation, length resolution and the byte runs (chapter 3), and the three recipe commands. -/

namespace Sys2Proof.Machine

/-! ## Sums and resolution -/

/-- The length a step adds to a fixed sum: its own when it is CLEAR, CIPHER, SKIP or STRIP with a fixed length; REST
adds nothing, and HEADER and TAG are counted apart (R60). -/
def stepFixed (st : Step) : Nat :=
  match st.kind, st.len with
  | .clear, .fixed n | .cipher, .fixed n | .skip, .fixed n | .strip, .fixed n => n
  | _, _ => 0

/-- The fixed input sum of protect (R60). -/
def RecipeDef.protectSum (d : RecipeDef) : Nat := (d.steps.map stepFixed).sum

/-- The fixed input sum of admit: the same plus 10 for HEADER plus the tag length (R60). -/
def RecipeDef.admitSum (d : RecipeDef) : Nat := d.protectSum + 10 + tagLenNat d.tagLen

/-- The fixed input sum of a direction (R60). -/
def RecipeDef.fixedSum (d : RecipeDef) : Direction → Nat
  | .toProtect => d.protectSum
  | .toAdmit => d.admitSum

/-- The step is the REST step. -/
def Step.isRest (st : Step) : Bool := st.len == .rest

/-- The recipe has a REST step. -/
def RecipeDef.hasRest (d : RecipeDef) : Bool := d.steps.any Step.isRest

/-- A step with its length in a job: fixed, or the rest (R52). -/
def resolveStep (rest : Nat) (st : Step) : StepKind × Nat :=
  match st.len with
  | .fixed n => (st.kind, n)
  | .rest => (st.kind, rest)

/-- The sum of the resolved lengths of the steps of one kind. -/
def kindSum (k : StepKind) (layout : List (StepKind × Nat)) : Nat :=
  ((layout.filter fun p => p.1 == k).map fun p => p.2).sum

/-- The metered bytes of a job: 10 for HEADER plus CLEAR plus CIPHER (R62). -/
def metered (layout : List (StepKind × Nat)) : Nat := 10 + kindSum .clear layout + kindSum .cipher layout

/-- The output length of a job (R63). -/
def outputLength (dir : Direction) (inLen : Nat) (tagLen : TagLen) (layout : List (StepKind × Nat)) : Nat :=
  match dir with
  | .toProtect => inLen + 10 + tagLenNat tagLen - kindSum .strip layout
  | .toAdmit => inLen - 10 - tagLenNat tagLen - kindSum .strip layout

/-- Length resolution: the resolved steps, or none when it fails (R60, R61). -/
def resolve (d : RecipeDef) (dir : Direction) (inLen : Nat) : Option (List (StepKind × Nat)) :=
  if 1 ≤ inLen ∧ inLen ≤ 2048 ∧ inLen ≤ d.maxInput ∧
      (if d.hasRest then d.fixedSum dir ≤ inLen else inLen = d.fixedSum dir) then
    some (d.steps.map (resolveStep (inLen - d.fixedSum dir)))
  else none

/-! ## Validation (R59) -/

/-- Check (4) of R59: one HEADER; one TAG, the last step; at most one REST, on CLEAR, CIPHER or SKIP; fixed admit input
sum at or below the maximum input length. -/
def RecipeDef.sound (d : RecipeDef) : Bool :=
  (d.steps.filter fun st => st.kind == .header).length == 1
    && (d.steps.filter fun st => st.kind == .tag).length == 1
    && (d.steps.getLast?.map fun st => st.kind) == some .tag
    && decide ((d.steps.filter Step.isRest).length ≤ 1)
    && (d.steps.filter Step.isRest).all (fun st => st.kind == .clear || st.kind == .cipher || st.kind == .skip)
    && decide (d.admitSum ≤ d.maxInput)

/-- The five checks of WRITE_RECIPE in order (R59): the index and definition, or the first failing check's code. -/
def checkRecipe (b : Block) (s : State) : Except ResultCode (RecipeNo × RecipeDef) :=
  match indexAt b 0x00 16, tagLenOf (byteAt b 0x02), maxInputAt b with
  | some n, some t, some m =>
    if 2 ≤ (byteAt b 0x01).toNat ∧ (byteAt b 0x01).toNat ≤ 6 then
      match stepsAt t b (byteAt b 0x01).toNat with
      | some steps =>
        if RecipeDef.sound ⟨steps, t, m⟩ then
          if (s.recipe n).inFlight = 0 then .ok (n, ⟨steps, t, m⟩) else .error .recipeBusy
        else .error .recipeInvalid
      | none => .error .badField
    else .error .recipeInvalid
  | _, _, _ => .error .badField

/-! ## The recipe commands -/

/-- WRITE_RECIPE (R59, R67). One byte for the reported index is the model's choice (assumption 31). -/
def runWriteRecipe (c : CommandCopy) (s : State) : State :=
  guarded c [] (fun s =>
    match checkRecipe c.block s with
    | .ok (n, d) => post c .done [BitVec.ofNat 8 n.val] (s.setRecipe n { s.recipe n with defn := some d })
    | .error r => post c r [] s) s

/-- CLEAR_RECIPE (R68). -/
def runClearRecipe (c : CommandCopy) (s : State) : State :=
  guarded c [] (fun s =>
    match indexAt c.block 0x00 16 with
    | some n =>
      if (s.recipe n).inFlight = 0 then post c .done [] (s.setRecipe n { s.recipe n with defn := none })
      else post c .recipeBusy [] s
    | none => post c .badField [] s) s

/-- The length of a step as READ_RECIPE reports it: FFFFh for REST (R69, note to Table 10-7). -/
def stepLenReport (st : Step) : List Byte :=
  match st.len with
  | .fixed n => bytesOf 2 n
  | .rest => bytesOf 2 0xFFFF

/-- The report of READ_RECIPE (R69). The state's code is a free value (assumption 6). -/
def recipeReport (r : Recipe) : List Byte :=
  match r.defn with
  | none => [Config.recipeStateCode false, 0]
  | some d =>
    [Config.recipeStateCode true] ++ bytesOf 1 r.inFlight ++ bytesOf 1 d.steps.length ++ bytesOf 1 (tagLenNat d.tagLen)
      ++ bytesOf 2 d.maxInput ++ (d.steps.map fun st => stepKindByte st.kind :: stepLenReport st).flatten
      ++ bytesOf 2 d.protectSum ++ bytesOf 2 d.admitSum

/-- READ_RECIPE (R69). -/
def runReadRecipe (c : CommandCopy) (s : State) : State :=
  match indexAt c.block 0x00 16 with
  | some n => post c .done (recipeReport (s.recipe n)) s
  | none => post c .badField [] s

/-- WRITE_RECIPE: 10h written to Start. -/
def execWriteRecipe (s : State) : Host.Outcome State Fault Refusal := .next (writeStart 0x10 runWriteRecipe s)

/-- CLEAR_RECIPE: 11h written to Start. -/
def execClearRecipe (s : State) : Host.Outcome State Fault Refusal := .next (writeStart 0x11 runClearRecipe s)

/-- READ_RECIPE: 12h written to Start. -/
def execReadRecipe (s : State) : Host.Outcome State Fault Refusal := .next (writeStart 0x12 runReadRecipe s)

end Sys2Proof.Machine
end

