-- ==== Sys2Proof/Machine/Dispatcher.lean ====
section
/-! DEFINITION. The dispatch checks, the refusal and the dispatch to a lane (sections 4.3 and 4.4). -/

namespace Sys2Proof.Machine

/-- What the checks decide: a verdict with the slot it names, if any, or the slot the frame is dispatched under. -/
inductive Decision
  | refuse (v : Verdict) (slot : Option SlotNo)
  | accept (k : SlotNo)
  deriving DecidableEq, Repr

/-- Check 4: the slot in place ACTIVE for a protect (R34), the bound slot with the marker for an admit (R35). -/
def lookupSlot (h : JobHeader) (s : State) : Except Verdict SlotNo :=
  match h.dir with
  | .toProtect =>
    if s.entry h.tag = DirEntry.empty then .error .noContext
    else
      match (s.entry h.tag).active with
      | some k => .ok k
      | none => .error .noActive
  | .toAdmit =>
    match (s.entry h.tag).bound.find? fun b => slotMarker s b.1 == some h.marker with
    | some b => .ok b.1
    | none => .error .noContext

/-- Check 6: the slot's direction permission lets the direction pass (R81). -/
def directionAllowed (p : DirPerm) (d : Direction) : Bool :=
  match p, d with
  | .both, _ => true
  | .protectOnly, .toProtect => true
  | .admitOnly, .toAdmit => true
  | _, _ => false

/-- Check 5: QUARANTINED, or held by a hold-class condition (R80). -/
def slotHeld (s : State) (k : SlotNo) : Bool := s.slotIs k .quarantined || heldByRecord s k

/-- Checks 5 to 7 under a slot: the verdict of the first that fails (R80, R81). -/
def slotChecks (h : JobHeader) (k : SlotNo) (s : State) : Option Verdict :=
  match s.slot k with
  | none => some .held
  | some c =>
    if slotHeld s k then some .held
    else if !directionAllowed c.settings.direction h.dir then some .direction
    else if !c.settings.recipes.getLsbD h.recipe.val then some .recipeDenied
    else none

/-- The spent test: already spent, out of sequence numbers, or out of byte life for this frame (R11). -/
def foundSpent (c : Context) (bytes : Nat) : Bool :=
  c.spent || decide (c.settings.ceiling < c.nextSeq) || decide (c.lifeLeft.toNat < bytes)

/-- The slot was not marked spent before: this test is the one that first sets its flag (R11). -/
def firstSpent (s : State) (k : SlotNo) : Bool :=
  match s.slot k with
  | some c => !c.spent
  | none => false

/-- Set the spent flag (R11). -/
def markSpent (k : SlotNo) (s : State) : State := s.updateSlot k fun c => { c with spent := true }

/-- Refused EXHAUSTED under a slot; LIFE_EXHAUSTED is raised at the test that first set its flag (R11, R82). -/
def exhausted (first : Bool) (k : SlotNo) (s : State) : State × Decision :=
  (if first then raiseOn { cls := .lifeExhausted, phase := some .dispatch } k s else s, .refuse .exhausted (some k))

/-- The spent test with no life roll-over left to try: dispatched under the slot, or EXHAUSTED (R41, R82). -/
def lastSpentTest (bytes : Nat) (k : SlotNo) (s : State) : State × Decision :=
  if (s.slot k).any fun c => foundSpent c bytes then exhausted (firstSpent s k) k (markSpent k s) else (s, .accept k)

/-- The STANDBY a life roll-over of the spent slot would name: LIFE_ROLL set and a bound slot in state STANDBY
(R41). -/
def lifeRollTarget (s : State) (k : SlotNo) : Option SlotNo :=
  match s.slot k with
  | some c => if c.settings.flags.lifeRoll then (s.entry c.tag).standby.filter fun p => s.slotIs p .standby else none
  | none => none

/-- After a life roll-over to `p`: ROLLOVER raised, and checks 5 to 8 made again under it (R41, R82). -/
def afterLifeRoll (h : JobHeader) (bytes : Nat) (p : SlotNo) (s : State) : State × Decision :=
  let s := raiseOn { cls := .rollover, phase := some .dispatch, reason := some .life } p s
  match slotChecks h p s with
  | some v => (s, .refuse v (some p))
  | none => lastSpentTest bytes p s

/-- Check 8 on a slot found spent: the life roll-over if one can be made, else EXHAUSTED (R41, R82). If the STANDBY's
record fails the frame is EXHAUSTED, and if both records fail it is HELD with no LIFE_EXHAUSTED (R38). -/
def spentSlot (atRoll : List Damage) (h : JobHeader) (bytes : Nat) (k : SlotNo) (s : State) : State × Decision :=
  let first := firstSpent s k
  let s := markSpent k s
  match lifeRollTarget s k with
  | none => exhausted first k s
  | some p =>
    let s := rollOver .dispatch none p (damage atRoll s)
    if s.slotIs p .active then afterLifeRoll h bytes p s
    else if s.slotIs k .quarantined then (s, .refuse .held (some k))
    else exhausted first k s

/-- Checks 5 to 8 under the slot the lookup found (R76). -/
def checksUnder (atRoll : List Damage) (h : JobHeader) (bytes : Nat) (k : SlotNo) (s : State) : State × Decision :=
  match slotChecks h k s with
  | some v => (s, .refuse v (some k))
  | none =>
    match h.dir with
    | .toAdmit => (s, .accept k)
    | .toProtect =>
      if (s.slot k).any fun c => foundSpent c bytes then spentSlot atRoll h bytes k s else (s, .accept k)

/-- Checks 4 to 8, with the record check at the lookup's read (R79). -/
def checksFromLookup (atRoll : List Damage) (h : JobHeader) (bytes : Nat) (s : State) : State × Decision :=
  match lookupSlot h s with
  | .error v => (s, .refuse v none)
  | .ok k => checksUnder atRoll h bytes k (recordCheck .dispatch none k s)

/-- Count a refusal in the named slot's frames refused, if it names one (R15). -/
def countRefused (k : Option SlotNo) (s : State) : State :=
  updateSome k (fun c => { c with framesRefused := c.framesRefused + 1 }) s

/-- The intake after the Job Header of a refused frame: its bytes are dropped to the last marker (R83). -/
def intakeAfterRefusal (w : FrameWord) : Intake := if w.last then .awaitJob else .discarding

/-- Refusal: a REFUSED entry at the tail, the refusal counted, the frame's bytes dropped (R15, R83). -/
def refuseFrame (w : FrameWord) (h : JobHeader) (v : Verdict) (k : Option SlotNo) (s : State) : State :=
  let s := countRefused k s
  { s with
    queue := s.queue ++ [.refused { verdict := v, dir := h.dir, tag := h.tag, marker := h.marker, slot := k }]
    intake := intakeAfterRefusal w }

/-- The Lane Arbiter's choice among qualifying lanes: the one, or of two the lane that was not chosen last (R85). -/
def chooseLane (s : State) : LaneId :=
  if s.laneA.qualifies && s.laneB.qualifies then
    match s.lastLane with
    | .laneA => .laneB
    | .laneB => .laneA
  else if s.laneA.qualifies then .laneA
  else .laneB

/-- Reservation and charge of a protect under a slot (R8, R10). -/
def chargeContext (bytes : Nat) (c : Context) : Context :=
  { c with nextSeq := c.nextSeq + 1, lifeLeft := c.lifeLeft - BitVec.ofNat 40 bytes }

/-- The low-life test: mark not 0, remainder at or below it, not reported yet (R12). -/
def lifeLow (c : Context) : Bool :=
  c.settings.lowMark != 0 && decide (c.lifeLeft ≤ c.settings.lowMark) && !c.lowReported

/-- The low-life test after a charge: LIFE_LOW with the reserved number, once (R12). -/
def testLifeLow (k : SlotNo) (seq : SeqNo) (s : State) : State :=
  if (s.slot k).any lifeLow then
    raiseOn { cls := .lifeLow, phase := some .dispatch, seq := some seq } k
      (s.updateSlot k fun c => { c with lowReported := true })
  else s

/-- The sequence number a dispatch under the slot reserves (R8). -/
def reservedSeq (dir : Direction) (k : SlotNo) (s : State) : SeqNo :=
  match dir, s.slot k with
  | .toProtect, some c => c.nextSeq
  | _, _ => 0

/-- The marker of a LANE entry: the slot's for a protect, the Job Header's for an admit (Table 6-1). -/
def entryMarker (h : JobHeader) (k : SlotNo) (s : State) : Bool :=
  match h.dir, s.slot k with
  | .toProtect, some c => c.marker
  | _, _ => h.marker

/-- Reservation, charge and low-life test; an admit makes none of them (R84). -/
def reserve (dir : Direction) (bytes : Nat) (k : SlotNo) (s : State) : State :=
  match dir with
  | .toProtect => testLifeLow k (reservedSeq dir k s) (s.updateSlot k (chargeContext bytes))
  | .toAdmit => s

/-- Both in-flight counts up by one (R16, R66). -/
def countInFlight (k : SlotNo) (n : RecipeNo) (s : State) : State :=
  (s.updateSlot k fun c => { c with inFlight := c.inFlight + 1 }).setRecipe n
    { s.recipe n with inFlight := (s.recipe n).inFlight + 1 }

/-- The job of a frame dispatched under a slot (R84). -/
def newJob (h : JobHeader) (d : RecipeDef) (layout : List (StepKind × Nat)) (k : SlotNo) (s : State) : Job where
  id := s.nextJob
  dir := h.dir
  tag := h.tag
  marker := entryMarker h k s
  slot := k
  recipe := h.recipe
  layout := layout
  tagLen := d.tagLen
  inLen := h.inLen
  outLen := outputLength h.dir h.inLen d.tagLen layout
  reserved := reservedSeq h.dir k s

/-- A frame placed in a lane's STAGE with its LANE entry at the tail of the queue, the intake STREAMING it (R84, R85,
R96). -/
def placeJob (j : Job) (l : LaneId) (s : State) : State :=
  { s.setLane l { s.lane l with stage := some { job := j, bytes := [], arrived := false } } with
    queue := s.queue ++ [.lane { job := j, lane := l, seq := j.reserved, parsed := false, status := .pending }]
    intake := .streaming j l 0
    lastLane := l
    nextJob := s.nextJob + 1 }

/-- End the job being streamed FRAMING, the intake then in the given state (R87, R88). -/
def endFraming (j : Job) (i : Intake) (s : State) : State := { endJobs [j.id] .framing s with intake := i }

/-- Dispatch to a lane; a frame of 0 bytes is ended FRAMING at once (R84, R87). -/
def dispatchToLane (w : FrameWord) (j : Job) (bytes : Nat) (s : State) : State :=
  let l := chooseLane s
  let s := placeJob j l (countInFlight j.slot j.recipe (reserve j.dir bytes j.slot s))
  if w.last then endFraming j .awaitJob s else s

/-- Refuse or dispatch as the checks decided (R76). -/
def settleDispatch (w : FrameWord) (h : JobHeader) (d : RecipeDef) (layout : List (StepKind × Nat))
    (r : State × Decision) : State :=
  match r.2 with
  | .refuse v k => refuseFrame w h v k r.1
  | .accept k => dispatchToLane w (newJob h d layout k r.1) (metered layout) r.1

/-- The taking of a Job Header: checks 1 to 3, then 4 to 8, and the refusal or dispatch, as one event (R72, R76 to
R79). -/
def takeJobHeader (atRoll : List Damage) (w0 : Word) (w : FrameWord) (s : State) : State :=
  let h := jobHeaderOf w0 w.data
  if !anyOnline s then refuseFrame w h .noLane none s
  else
    match (s.recipe h.recipe).defn with
    | none => refuseFrame w h .recipeEmpty none s
    | some d =>
      match resolve d h.dir h.inLen with
      | none => refuseFrame w h .length none s
      | some layout => settleDispatch w h d layout (checksFromLookup atRoll h (metered layout) s)

end Sys2Proof.Machine
end

