-- ==== Sys2Proof/Machine/Intake.lean ====
section
/-! DEFINITION. The Frame Intake: JOB_FIRST_WORD, JOB_HEADER, FRAME_WORD and DISCARD_WORD (sections 4.2 and 4.5). A word
is handled by the state the intake stands in, whichever of the four rows spelled it (assumption 4). -/

namespace Sys2Proof.Machine

/-- A word taken in AWAIT_JOB: held when it has the first marker and no last marker, else discarded (R73). -/
def wordInAwait (w : FrameWord) (s : State) : State :=
  { s with intake := if w.first && !w.last then .jobWord w.data else .awaitJob }

/-- A word taken in JOB_WORD: a first marker replaces or, with the last marker, ends the held word; any other word is
the Job Header's second word (R74). -/
def wordInJobWord (atRoll : List Damage) (w0 : Word) (w : FrameWord) (s : State) : State :=
  if w.first then wordInAwait w s else takeJobHeader atRoll w0 w s

/-- The bytes of a word added to the frame in a lane's STAGE (R86). -/
def stageBytes (bs : List Byte) (arrived : Bool) (f : StageFrame) : StageFrame :=
  { f with bytes := f.bytes ++ bs, arrived := arrived }

/-- Write a word's bytes into STAGE of the lane (R86). -/
def writeStage (l : LaneId) (bs : List Byte) (arrived : Bool) (s : State) : State :=
  s.setLane l { s.lane l with stage := (s.lane l).stage.map (stageBytes bs arrived) }

/-- A word of the frame being streamed, its bytes counted: too long ends it FRAMING; the last marker completes the
arrival, or ends it FRAMING as too short; else the bytes are written and streaming goes on (R86 to R88). -/
def streamWord (j : Job) (l : LaneId) (n : Nat) (w : FrameWord) (s : State) : State :=
  let n' := n + frameByteCount w
  if j.inLen < n' then endFraming j (if w.last then .awaitJob else .discarding) s
  else if w.last then
    if n' = j.inLen then { writeStage l (frameBytes w) true s with intake := .awaitJob }
    else endFraming j .awaitJob s
  else { writeStage l (frameBytes w) false s with intake := .streaming j l n' }

/-- A word taken in STREAMING; with the first marker it breaks the frame off, which is ended FRAMING, and begins a new
transfer without consulting the acceptance condition (R89). -/
def wordInStreaming (j : Job) (l : LaneId) (n : Nat) (w : FrameWord) (s : State) : State :=
  if w.first then wordInAwait w (endFraming j .awaitJob s) else streamWord j l n w s

/-- A word taken in DISCARDING: dropped, the last marker ending the discard; with the first marker a new transfer
begins (R83, R89). -/
def wordInDiscarding (w : FrameWord) (s : State) : State :=
  if w.first then wordInAwait w s else { s with intake := if w.last then .awaitJob else .discarding }

/-- A word presented on Frame In. In AWAIT_JOB and JOB_WORD it is taken only while the acceptance condition holds;
otherwise READY is low and it waits at the source (R75, R193). -/
def frameInWord (atRoll : List Damage) (w : FrameWord) (s : State) : State :=
  match s.intake with
  | .awaitJob => if accepting s then wordInAwait w s else s
  | .jobWord w0 => if accepting s then wordInJobWord atRoll w0 w s else s
  | .streaming j l n => wordInStreaming j l n w s
  | .discarding => wordInDiscarding w s

/-- READY of Frame In (R75, R196). -/
def frameInReady (s : State) : Bool :=
  if s.power = .running then
    match s.intake with
    | .awaitJob | .jobWord _ => accepting s
    | .streaming _ _ _ | .discarding => true
  else false

/-- JOB_FIRST_WORD (R73, R74). -/
def execJobFirstWord (w : FrameWord) (s : State) : Host.Outcome State Fault Refusal :=
  .next (whenRunning (frameInWord [] w) s)

/-- JOB_HEADER (R72, R76). -/
def execJobHeader (w : FrameWord) (atLookup atRoll : List Damage) (s : State) : Host.Outcome State Fault Refusal :=
  .next (whenRunning (fun s => frameInWord atRoll w (damage atLookup s)) s)

/-- FRAME_WORD (R86 to R89). -/
def execFrameWord (w : FrameWord) (s : State) : Host.Outcome State Fault Refusal :=
  .next (whenRunning (frameInWord [] w) s)

/-- DISCARD_WORD (R83, R89). -/
def execDiscardWord (w : FrameWord) (s : State) : Host.Outcome State Fault Refusal :=
  .next (whenRunning (frameInWord [] w) s)

end Sys2Proof.Machine
end

