-- ==== Sys2Proof/Machine/Lanes.lean ====
section
/-! DEFINITION. The cipher lanes: the moves, the four phases of WORK, lane faults, and the two lane commands
(chapter 5). Each phase is one step (assumption 25). -/

namespace Sys2Proof.Machine

/-! ## Moves -/

/-- STAGE to WORK: an arrived frame, WORK empty (R96). -/
def moveToWork (l : LaneId) (s : State) : State :=
  match (s.lane l).stage, (s.lane l).work with
  | some f, none =>
    if f.arrived then
      s.setLane l { s.lane l with
        stage := none
        work := some
          { job := f.job
            input := f.bytes
            phase := .keyFetch
            fetched := none
            header := []
            nonce := none
            authClear := []
            cipherBytes := []
            output := [] } }
    else s
  | _, _ => s

/-- The entry of a job marked FINISHED with the lane's outcome and output length, if it is PENDING (R98, R115). -/
def finishEntry (id : Nat) (o : LaneOutcome) (outLen : Nat) : Entry → Entry
  | .lane e => if e.job.id = id ∧ e.status = .pending then .lane { e with status := .finished o outLen } else .lane e
  | .refused e => .refused e

/-- The output length a lane hands over: none for MALFORMED, else that of R63 (Table 5-3). -/
def handedLength (j : Job) (o : LaneOutcome) : Nat :=
  match o with
  | .malformed => 0
  | .finished | .verifyFail | .verified => j.outLen

/-- WORK to OUT: a DONE frame, OUT empty; its entry becomes FINISHED and the fetched key is discarded (R97 to R99). -/
def moveToOut (l : LaneId) (s : State) : State :=
  match (s.lane l).work, (s.lane l).out with
  | some f, none =>
    match f.phase with
    | .done o =>
      { s.setLane l { s.lane l with work := none, out := some { job := f.job, bytes := f.output } } with
        queue := s.queue.map (finishEntry f.job.id o (handedLength f.job o)) }
    | .keyFetch | .header | .body | .tag => s
  | _, _ => s

/-! ## Phases -/

/-- Replace the frame in a lane's WORK. -/
def setWork (l : LaneId) (f : WorkFrame) (s : State) : State := s.setLane l { s.lane l with work := some f }

/-- What KEY_FETCH copies from a slot (R99). -/
def fetchFrom (c : Context) : Option FetchedKey :=
  c.key.map fun k => { key := k, width := c.keyWidth, salt := c.salt, generation := c.generation, marker := c.marker }

/-- KEY_FETCH: copy key, key width, salt, generation and marker of the job's slot, in whatever state it stands; no
record check (R99). -/
def fetchKey (l : LaneId) (s : State) : State :=
  match (s.lane l).work with
  | some f =>
    if f.phase = .keyFetch then
      match (s.slot f.job.slot).bind fetchFrom with
      | some k => setWork l { f with fetched := some k, phase := .header } s
      | none => s
    else s
  | none => s

/-- The nonce: salt, generation, a zero byte, sequence, 12 bytes high first (R58, Table 3-3). -/
def nonceOf (k : FetchedKey) (seq : SeqNo) : Nonce := k.salt ++ k.generation ++ (0 : Byte) ++ seq

/-- The control byte of a stream header: marker in bit 7, tag-length code in bits 6–5, zeros (Table 10-6). -/
def controlByte (marker : Bool) (t : TagLen) : Byte := BitVec.ofBool marker ++ tagLenCode t ++ (0 : BitVec 5)

/-- The 10 bytes of a stream header (R64, Table 10-6). -/
def streamHeader (tag : Tag) (marker : Bool) (t : TagLen) (seq : SeqNo) : List Byte :=
  bytesOf 2 tag.toNat ++ [controlByte marker t, 0] ++ bytesOf 6 seq.toNat

/-- Where the HEADER step starts in the admit input: after the steps before it (R52). -/
def headerOffset (layout : List (StepKind × Nat)) : Nat :=
  ((layout.takeWhile fun p => p.1 != .header).map fun p => p.2).sum

/-- The 10 bytes at the HEADER step's place of an admit input (R53). -/
def receivedHeader (f : WorkFrame) : List Byte := (f.input.drop (headerOffset f.job.layout)).take 10

/-- The sequence a received header carries (Table 10-6). -/
def parsedSeq (hdr : List Byte) : SeqNo := BitVec.ofNat 48 (natOf ((hdr.drop 4).take 6))

/-- The five tests of R65: tag, marker and tag-length code as the job and recipe have them, zero bits zero, sequence not
0. -/
def headerPasses (j : Job) (hdr : List Byte) : Bool :=
  decide (hdr.take 4 = bytesOf 2 j.tag.toNat ++ [controlByte j.marker j.tagLen, 0]) && parsedSeq hdr != 0

/-- The entry of a job with the parsed sequence written into it (R100, R115). -/
def writeSeq (id : Nat) (seq : SeqNo) : Entry → Entry
  | .lane e => if e.job.id = id then .lane { e with seq := seq, parsed := true } else .lane e
  | .refused e => .refused e

/-- HEADER of a protect: build the header; the nonce follows from the reserved number (R58, R64). -/
def buildHeader (k : FetchedKey) (f : WorkFrame) : WorkFrame :=
  { f with
    header := streamHeader f.job.tag k.marker f.job.tagLen f.job.reserved
    nonce := some (nonceOf k f.job.reserved)
    phase := .body }

/-- HEADER of an admit: if the tests pass the nonce follows and BODY is next; if not the frame is DONE, MALFORMED
(R65, R100). -/
def parseHeader (k : FetchedKey) (f : WorkFrame) : WorkFrame :=
  { f with
    header := receivedHeader f
    nonce := if headerPasses f.job (receivedHeader f) then some (nonceOf k (parsedSeq (receivedHeader f))) else none
    phase := if headerPasses f.job (receivedHeader f) then .body else .done .malformed }

/-- HEADER (R100). An admit's sequence goes into its entry in either outcome of the tests. The phase begins at the end of
KEY_FETCH and the sequence is written by this step; an admit ended between the two carries 0 (assumption 35). -/
def headerPhase (l : LaneId) (s : State) : State :=
  match (s.lane l).work with
  | some f =>
    match f.phase, f.fetched with
    | .header, some k =>
      match f.job.dir with
      | .toProtect => setWork l (buildHeader k f) s
      | .toAdmit =>
        { setWork l (parseHeader k f) s with queue := s.queue.map (writeSeq f.job.id (parsedSeq (receivedHeader f))) }
    | _, _ => s
  | none => s

/-- What BODY has produced so far: the input still to be read, keystream bytes used, the output run and the gathered
tag inputs (R54, R101). -/
structure BodyRun where
  input : List Byte
  used : Nat
  output : List Byte
  authClear : List Byte
  cipherBytes : List Byte
  deriving DecidableEq, Repr

/-- Bytes combined with the keystream from a given place on, encryption and decryption alike (R54). That the
combination is exclusive or is presumed from AES in counter mode (assumption 32). -/
def combine (k : ContextKey) (n : Nonce) (start : Nat) (bs : List Byte) : List Byte :=
  bs.mapIdx fun i b => b ^^^ Config.keystream k n (start + i)

/-- One step of BODY, by its kind (Table 3-2, R53 to R55, R57, R101). -/
def bodyStep (dir : Direction) (k : ContextKey) (n : Nonce) (hdr : List Byte) (r : BodyRun) (p : StepKind × Nat) :
    BodyRun :=
  let rest := r.input.drop p.2
  let here := r.input.take p.2
  match p.1, dir with
  | .header, .toProtect => { r with output := r.output ++ hdr, authClear := r.authClear ++ hdr }
  | .header, .toAdmit => { r with input := r.input.drop 10, authClear := r.authClear ++ r.input.take 10 }
  | .clear, _ => { r with input := rest, output := r.output ++ here, authClear := r.authClear ++ here }
  | .cipher, .toProtect =>
    { r with
      input := rest
      used := r.used + here.length
      output := r.output ++ combine k n r.used here
      cipherBytes := r.cipherBytes ++ combine k n r.used here }
  | .cipher, .toAdmit =>
    { r with
      input := rest
      used := r.used + here.length
      output := r.output ++ combine k n r.used here
      cipherBytes := r.cipherBytes ++ here }
  | .skip, _ => { r with input := rest, output := r.output ++ here }
  | .strip, _ => { r with input := rest }
  | .tag, _ => r

/-- The whole BODY of a frame: its steps in list order (R52, R101). -/
def bodyRun (k : ContextKey) (n : Nonce) (f : WorkFrame) : BodyRun :=
  f.job.layout.foldl (bodyStep f.job.dir k n f.header)
    { input := f.input, used := 0, output := [], authClear := [], cipherBytes := [] }

/-- BODY (R101). -/
def bodyPhase (l : LaneId) (s : State) : State :=
  match (s.lane l).work with
  | some f =>
    match f.phase, f.fetched, f.nonce with
    | .body, some k, some n =>
      setWork l
        { f with
          phase := .tag
          output := (bodyRun k.key n f).output
          authClear := (bodyRun k.key n f).authClear
          cipherBytes := (bodyRun k.key n f).cipherBytes } s
    | _, _, _ => s
  | none => s

/-- The first tag-length bytes of the tag a frame's inputs give (R56, R57). -/
def frameTag (k : ContextKey) (n : Nonce) (f : WorkFrame) : List Byte :=
  (bytesOf 16 (Config.authTag k n f.authClear f.cipherBytes).toNat).take (tagLenNat f.job.tagLen)

/-- The received tag: the last tag-length bytes of an admit input (R56). -/
def receivedTag (f : WorkFrame) : List Byte := f.input.drop (f.input.length - tagLenNat f.job.tagLen)

/-- TAG of a frame: appended on protect, compared on admit; DONE (R102). -/
def tagFrame (k : ContextKey) (n : Nonce) (f : WorkFrame) : WorkFrame :=
  match f.job.dir with
  | .toProtect => { f with output := f.output ++ frameTag k n f, phase := .done .finished }
  | .toAdmit => { f with phase := .done (if receivedTag f = frameTag k n f then .verified else .verifyFail) }

/-- TAG (R102). -/
def tagPhase (l : LaneId) (s : State) : State :=
  match (s.lane l).work with
  | some f =>
    match f.phase, f.fetched, f.nonce with
    | .tag, some k, some n => setWork l (tagFrame k.key n f) s
    | _, _, _ => s
  | none => s

/-! ## Lane faults (R107, R108) -/

/-- The reserved number of a protect; none for an admit (R108). -/
def reservedOf (j : Job) : Option SeqNo :=
  match j.dir with
  | .toProtect => some j.reserved
  | .toAdmit => none

/-- The full report on the WORK frame's slot, then its FAULTED frame's ending (R108). -/
def fullReport (l : LaneId) (p : CondPhase) (j : Job) (s : State) : State :=
  applyEnding .cut j.slot
    (raiseOn { cls := .laneFault, phase := some p, lane := some l, seq := reservedOf j } j.slot s)

/-- The ancillary report on the STAGE frame's slot, if it is a different slot, then its FAULTED frame's ending
(R108, R142). -/
def ancillaryReport (l : LaneId) (w : Job) (f : Option StageFrame) (s : State) : State :=
  match f with
  | some f =>
    if f.job.slot = w.slot then s
    else applyEnding .cut f.job.slot (raiseOn { cls := .laneFault, lane := some l, ancillary := true } f.job.slot s)
  | none => s

/-- The jobs in STAGE and WORK of a lane. -/
def Lane.unfinishedJobs (l : Lane) : List Nat :=
  (l.stage.map fun f => f.job.id).toList ++ (l.work.map fun f => f.job.id).toList

/-- Take a lane OFFLINE and set LANE_DOWN (R107 steps 4 and 5). -/
def laneOffline (l : LaneId) (s : State) : State :=
  { s.setLane l { s.lane l with state := .offline } with laneDown := true }

/-- A lane fault, while the frame in WORK is PROCESSING (R107). -/
def faultLane (l : LaneId) (s : State) : State :=
  match (s.lane l).work with
  | some f =>
    match faultPhase f.phase with
    | some p =>
      ancillaryReport l f.job (s.lane l).stage
        (fullReport l p f.job (laneOffline l (endJobs (s.lane l).unfinishedJobs .faulted s)))
    | none => s
  | none => s

/-! ## Lane commands -/

/-- The slots of the frames in STAGE and WORK of a lane. -/
def Lane.unfinishedSlots (l : Lane) : List SlotNo :=
  (l.stage.map fun f => f.job.slot).toList ++ (l.work.map fun f => f.job.slot).toList

/-- ABORT_LANES (R110). The numbers of jobs ended are one byte each, Lane A's first: the model's choice
(assumption 31). -/
def runAbortLanes (c : CommandCopy) (s : State) : State :=
  post c .done [BitVec.ofNat 8 s.laneA.unfinishedJobs.length, BitVec.ofNat 8 s.laneB.unfinishedJobs.length]
    ((s.laneA.unfinishedSlots ++ s.laneB.unfinishedSlots).foldl (fun s k => applyEnding .cut k s)
      (endJobs (s.laneA.unfinishedJobs ++ s.laneB.unfinishedJobs) .aborted s))

/-- RESTORE_LANE (R111). -/
def runRestoreLane (c : CommandCopy) (s : State) : State :=
  match laneOf (byteAt c.block 0x00) with
  | none => post c .badField [] s
  | some l =>
    match (s.lane l).state with
    | .online => post c .badState [] s
    | .offline => post c .done [] (s.setLane l { s.lane l with state := .online, stage := none, work := none })

/-! ## The steps -/

/-- STAGE_TO_WORK (R96). -/
def execStageToWork (l : LaneId) (s : State) : Host.Outcome State Fault Refusal := .next (whenRunning (moveToWork l) s)

/-- KEY_FETCH (R99). -/
def execKeyFetch (l : LaneId) (s : State) : Host.Outcome State Fault Refusal := .next (whenRunning (fetchKey l) s)

/-- HEADER (R100). -/
def execHeader (l : LaneId) (s : State) : Host.Outcome State Fault Refusal := .next (whenRunning (headerPhase l) s)

/-- BODY (R101). -/
def execBody (l : LaneId) (s : State) : Host.Outcome State Fault Refusal := .next (whenRunning (bodyPhase l) s)

/-- TAG (R102). -/
def execTag (l : LaneId) (s : State) : Host.Outcome State Fault Refusal := .next (whenRunning (tagPhase l) s)

/-- WORK_TO_OUT (R98). -/
def execWorkToOut (l : LaneId) (s : State) : Host.Outcome State Fault Refusal := .next (whenRunning (moveToOut l) s)

/-- LANE_FAULT (R107). -/
def execLaneFault (l : LaneId) (s : State) : Host.Outcome State Fault Refusal := .next (whenRunning (faultLane l) s)

/-- ABORT_LANES: 18h written to Start. -/
def execAbortLanes (s : State) : Host.Outcome State Fault Refusal := .next (writeStart 0x18 runAbortLanes s)

/-- RESTORE_LANE: 19h written to Start. -/
def execRestoreLane (s : State) : Host.Outcome State Fault Refusal := .next (writeStart 0x19 runRestoreLane s)

end Sys2Proof.Machine
end

