-- ==== Sys2Proof/Machine/Release.lean ====
section
/-! DEFINITION. The Return Queue's release, and Frame Out: RELEASE and RESULT_WORD (sections 6.2 to 6.6, 10.3, 10.4). -/

namespace Sys2Proof.Machine

/-! ## Verdicts and their effects -/

/-- The entry is ready for release: REFUSED, FINISHED or ENDED (R116, Table 6-2). -/
def Entry.ready : Entry → Bool
  | .refused _ => true
  | .lane e => e.status != .pending

/-- The sequence an entry carries: a protect's reserved number, or an admit's parsed number if it reached HEADER
(R120). -/
def LaneEntry.carried (e : LaneEntry) : Option SeqNo :=
  match e.job.dir with
  | .toProtect => some e.seq
  | .toAdmit => if e.parsed then some e.seq else none

/-- A protect passed (R15, R121). -/
def countProtected (c : Context) : Context := { c with framesProtected := c.framesProtected + 1 }

/-- An admit refused at release: STALE, or with its failure VERIFY_FAIL (R15). -/
def countStale (c : Context) : Context := { c with framesRefused := c.framesRefused + 1 }

/-- A VERIFY_FAIL counted, saturating at 255 (R14, R123). -/
def countFailure (c : Context) : Context :=
  { countStale c with verifyFailures := if c.verifyFailures = 255 then 255 else c.verifyFailures + 1 }

/-- The increment of the verify failures brings them to a non-zero verify limit (R14). -/
def reachesVerifyLimit (c : Context) : Bool :=
  c.settings.verifyLimit != 0 && c.verifyFailures != 255 && c.verifyFailures + 1 == c.settings.verifyLimit

/-- An admit passed: watermark, verify failures 0, frames admitted (R13, R124). -/
def countAdmitted (seq : SeqNo) (c : Context) : Context :=
  { c with watermark := seq, verifyFailures := 0, framesAdmitted := c.framesAdmitted + 1 }

/-- Release of a VERIFY_FAIL admit: the counts, and VERIFY_LIMIT when the limit is reached (R123). -/
def releaseFailure (k : SlotNo) (seq : SeqNo) (s : State) : State :=
  match s.slot k with
  | some c =>
    if reachesVerifyLimit c then
      raiseOn { cls := .verifyLimit, hold := c.settings.flags.verifyHold, phase := some .release, seq := some seq } k
        (s.updateSlot k countFailure)
    else s.updateSlot k countFailure
  | none => s

/-- Drain progress counted, saturating at 65535 (R20). -/
def countProgress (c : Context) : Context :=
  { c with drainProgress := if c.drainProgress = 65535 then 65535 else c.drainProgress + 1 }

/-- Drain progress has reached a non-zero budget (R20; assumption 30). -/
def budgetReached (c : Context) : Bool :=
  c.settings.drainBudget != 0 && decide (c.settings.drainBudget ≤ c.drainProgress)

/-- The tag's DRAINING slot: the slot in place DRAINING, in state DRAINING (R125). -/
def drainingOf (s : State) (t : Tag) : Option SlotNo := (s.entry t).draining.filter fun k => s.slotIs k .draining

/-- A PASSED admit under the tag's ACTIVE slot: the DRAINING slot's progress, and its drain end by budget (R20,
R125). -/
def drainProgress (t : Tag) (seq : SeqNo) (s : State) : State :=
  match drainingOf s t with
  | some d =>
    let s := s.updateSlot d countProgress
    if (s.slot d).any budgetReached then drainEnd .budget .release (some seq) d s else s
  | none => s

/-- The peer roll-over, with ROLLOVER raised on the new ACTIVE when it was made (R38, R40). -/
def peerRoll (atRoll : List Damage) (k : SlotNo) (seq : SeqNo) (s : State) : State :=
  let s := rollOver .release (some seq) k (damage atRoll s)
  if s.slotIs k .active then
    raiseOn { cls := .rollover, phase := some .release, seq := some seq, reason := some .peer } k s
  else s

/-- The one further effect of a PASSED admit, by the slot's state at this release (R125). -/
def afterAdmit (atRoll : List Damage) (k : SlotNo) (seq : SeqNo) (s : State) : State :=
  match s.slot k with
  | some c =>
    match c.state with
    | .active => drainProgress c.tag seq s
    | .standby => if c.settings.flags.peerRoll then peerRoll atRoll k seq s else s
    | .loading | .draining | .retiring | .quarantined => s
  | none => s

/-- Release of a VERIFIED admit: judged against the watermark (R124). -/
def releaseVerified (atRoll : List Damage) (k : SlotNo) (seq : SeqNo) (s : State) : State × Verdict :=
  match s.slot k with
  | some c =>
    if seq ≤ c.watermark then (s.updateSlot k countStale, .stale)
    else (afterAdmit atRoll k seq (s.updateSlot k (countAdmitted seq)), .passed)
  | none => (s, .aborted)

/-- The final verdict of a FINISHED entry whose record check passed, with the verdict's effects (R121 to R125). -/
def judge (atRoll : List Damage) (o : LaneOutcome) (k : SlotNo) (seq : SeqNo) (s : State) : State × Verdict :=
  match o with
  | .finished => (s.updateSlot k countProtected, .passed)
  | .malformed => (s, .malformed)
  | .verifyFail => (releaseFailure k seq s, .verifyFail)
  | .verified => releaseVerified atRoll k seq s

/-- The slot is in a state in which release applies its effects (R2). -/
def slotLive (s : State) (k : SlotNo) : Bool := (s.slot k).any fun c => c.state.live

/-- The record check of a release, then the judgement; ABORTED when the check fails (R120). -/
def releaseFinished (atRead atRoll : List Damage) (e : LaneEntry) (o : LaneOutcome) (s : State) : State × Verdict :=
  let s := recordCheck .release e.carried e.job.slot (damage atRead s)
  if slotLive s e.job.slot then judge atRoll o e.job.slot e.seq s else (s, .aborted)

/-- The final verdict of a LANE entry and its effects, and the output length its result carries (R119 to R125). A
PENDING entry is not ready; it is never released. -/
def decideRelease (atRead atRoll : List Damage) (e : LaneEntry) (s : State) : State × Verdict × Nat :=
  match e.status with
  | .finished o n =>
    let r := releaseFinished atRead atRoll e o s
    (r.1, r.2, if r.2 = .passed then n else 0)
  | .ended v => (s, endVerdict v, 0)
  | .pending => (s, .aborted, 0)

/-! ## Endings, counts and sending -/

/-- The verdicts whose release applies the ending FINISHED (R127). -/
def Verdict.endsFinished : Verdict → Bool
  | .passed | .stale | .verifyFail | .malformed | .framing => true
  | .noLane | .recipeEmpty | .length | .noContext | .noActive | .held | .direction | .recipeDenied => false
  | .exhausted | .aborted | .faulted => false

/-- The ending FINISHED, for the verdicts that apply it (R127). -/
def endingAtRelease (v : Verdict) (k : SlotNo) (s : State) : State :=
  if v.endsFinished then applyEnding .finished k s else s

/-- A RETIRING slot with no frame in flight goes FREE (R18, R126). -/
def freeIfRetired (k : SlotNo) (s : State) : State :=
  match s.slot k with
  | some c => if c.state = .retiring ∧ c.inFlight = 0 then freeSlot k s else s
  | none => s

/-- Both in-flight counts down by one, and a RETIRING slot at 0 freed (R126). -/
def countReleased (k : SlotNo) (n : RecipeNo) (s : State) : State :=
  freeIfRetired k
    ((s.updateSlot k fun c => { c with inFlight := c.inFlight - 1 }).setRecipe n
      { s.recipe n with inFlight := (s.recipe n).inFlight - 1 })

/-- Empty OUT of a lane if it holds the job's frame (R98, R129). -/
def emptyOut (l : LaneId) (id : Nat) (s : State) : State :=
  s.setLane l { s.lane l with out := (s.lane l).out.filter fun f => f.job.id != id }

/-- Begin the sending of a LANE entry's result; with no output bytes the lane's OUT is emptied at once (R128,
R129). -/
def sendLane (e : LaneEntry) (v : Verdict) (n : Nat) (s : State) : State :=
  { (if n = 0 then emptyOut e.lane e.job.id s else s) with
    sending := some
      { verdict := v
        marker := e.job.marker
        slot := some e.job.slot
        tag := e.job.tag
        outLen := n
        seq := e.seq
        lane := if n = 0 then none else some e.lane
        wordsSent := 0 } }

/-- Begin the sending of a REFUSED entry's result (R118). -/
def sendRefused (e : RefusedEntry) (s : State) : State :=
  { s with
    sending := some
      { verdict := e.verdict
        marker := e.marker
        slot := e.slot
        tag := e.tag
        outLen := 0
        seq := 0
        lane := none
        wordsSent := 0 } }

/-- Release of a LANE entry that has left the queue: verdict and effects, ending, decrements, sending (R117). -/
def releaseLane (atRead atRoll : List Damage) (e : LaneEntry) (s : State) : State :=
  let r := decideRelease atRead atRoll e s
  sendLane e r.2.1 r.2.2 (countReleased e.job.slot e.job.recipe (endingAtRelease r.2.1 e.job.slot r.1))

/-- Release of the head entry, when it is ready and Frame Out is free (R116 to R119). -/
def releaseHead (atRead atRoll : List Damage) (s : State) : State :=
  match s.sending, s.queue with
  | none, e :: rest =>
    if e.ready then
      match e with
      | .refused e => sendRefused e { s with queue := rest }
      | .lane e => releaseLane atRead atRoll e { s with queue := rest }
    else s
  | _, _ => s

/-! ## Frame Out -/

/-- The number of words of a result with `n` output bytes (R129). -/
def resultWords (n : Nat) : Nat := 4 + (n + 3) / 4

/-- The four words of the Result Header (Table 10-5). -/
def headerWord (x : Sending) : Nat → Word
  | 0 => verdictByte x.verdict ++ BitVec.ofBool x.marker ++ BitVec.ofBool x.slot.isNone ++ (0 : BitVec 6) ++ x.tag
  | 1 => ((x.slot.map slotByte).getD 0) ++ (0 : BitVec 12) ++ BitVec.ofNat 12 x.outLen
  | 2 => (0 : BitVec 16) ++ x.seq.extractLsb' 32 16
  | _ => x.seq.extractLsb' 0 32

/-- The output bytes of the result in sending, read from its lane's OUT (R129). -/
def outputBytes (x : Sending) (s : State) : List Byte :=
  match x.lane with
  | some l => ((s.lane l).out.map fun f => f.bytes).getD []
  | none => []

/-- Word `i` of the output: four bytes, zero beyond the result (R129, R193). -/
def outputWord (bs : List Byte) (i : Nat) : Word :=
  BitVec.ofNat 32 (natOf ((List.range 4).map fun j => bs.getD (4 * i + j) 0))

/-- The word Frame Out presents with VALID high; none while VALID is low (R129, R194, R196). -/
def frameOutWord (s : State) : Option FrameWord :=
  if s.power = .running then
    s.sending.map fun x =>
      { data := if x.wordsSent < 4 then headerWord x x.wordsSent else outputWord (outputBytes x s) (x.wordsSent - 4)
        first := decide (x.wordsSent = 0)
        last := decide (x.wordsSent + 1 = resultWords x.outLen)
        count := if x.wordsSent + 1 = resultWords x.outLen then countCode x.outLen else 0 }
  else none

/-- Empty the OUT a sent result was read from (R98, R129). -/
def emptySentOut (x : Sending) (s : State) : State :=
  match x.lane with
  | some l => s.setLane l { s.lane l with out := none }
  | none => s

/-- The sink accepts the word presented; the last one frees Frame Out and empties the lane's OUT (R129, R130). -/
def acceptWord (s : State) : State :=
  match s.sending with
  | some x =>
    if x.wordsSent + 1 < resultWords x.outLen then { s with sending := some { x with wordsSent := x.wordsSent + 1 } }
    else { emptySentOut x s with sending := none }
  | none => s

/-! ## The steps -/

/-- RELEASE (R117). -/
def execRelease (atRead atRoll : List Damage) (s : State) : Host.Outcome State Fault Refusal :=
  .next (whenRunning (releaseHead atRead atRoll) s)

/-- RESULT_WORD (R129). -/
def execResultWord (s : State) : Host.Outcome State Fault Refusal := .next (whenRunning acceptWord s)

end Sys2Proof.Machine
end

