-- ==== Sys2Proof/Machine/Timer.lean ====
section
/-! DEFINITION. The drain timers: DRAIN_TIMER_EXPIRY, and the millisecond that passes when no command waits
(R19, R21; assumption 7). -/

namespace Sys2Proof.Machine

/-- The slot is DRAINING with its timer running. -/
def Context.timing (c : Context) : Bool := c.state == .draining && c.timerRuns

/-- The slot's timer runs and has reached 0 (R19). -/
def Context.timerDue (c : Context) : Bool := c.timing && c.timerLeft == 0

/-- Expiry of a running drain timer that has reached 0: its drain ends with reason TIMER, phase TIMER (R19, R21). A timer
with time remaining does not expire, nor does a stopped one. -/
def expireTimer (k : SlotNo) (s : State) : State :=
  if (s.slot k).any Context.timerDue then drainEnd .timer .timer none k s else s

/-- The lowest-numbered slot whose timer is due (assumption 7). -/
def firstDue (s : State) : Option SlotNo := (List.finRange 256).find? fun k => (s.slot k).any Context.timerDue

/-- One millisecond off a running timer (R19). -/
def countDown (c : Context) : Context :=
  if c.timing then { c with timerLeft := c.timerLeft - 1 } else c

/-- One millisecond for every running timer. -/
def countDownAll (s : State) : State := { s with slots := s.slots.map fun c => c.map countDown }

/-- The part with no command waiting: an expiry that is due is taken, else one millisecond passes; nothing runs until
start-up has ended (assumption 7). -/
def tick (s : State) : State :=
  whenRunning (fun s =>
    match firstDue s with
    | some k => expireTimer k s
    | none => countDownAll s) s

/-- DRAIN_TIMER_EXPIRY (R19, R21). -/
def execDrainTimerExpiry (k : SlotNo) (s : State) : Host.Outcome State Fault Refusal :=
  .next (whenRunning (expireTimer k) s)

end Sys2Proof.Machine
end

