-- ==== Sys2Proof/Machine/Install.lean ====
section
/-! DEFINITION. INSTALL, SUCCEED and the completion of their unwrap (sections 8.3 and 8.4). -/

namespace Sys2Proof.Machine

/-- The key of an anchor that is PROGRAMMED; none when the anchor is unusable (R177). -/
def anchorKey (s : State) (a : AnchorNo) : Option AnchorKey :=
  match (s.anchor a).state with
  | .programmed => (s.anchor a).key
  | .blank | .revoked | .defective => none

/-- The chosen FREE slot enters LOADING, the anchor key is read into the unwrap, the unit stays EXECUTING (R3, R163,
R177). -/
def startUnwrap (n : NewContext) (standby : Bool) (key : AnchorKey) (named : Option SlotNo) (k : SlotNo)
    (s : State) : State :=
  { s.setSlot k (some n.loading) with
    unit := .unwrapping { slot := k, standby := standby, anchorKey := key, named := named } }

/-- The lowest-numbered FREE slot is taken, or NO_SLOT with the given report (R162 check 6, R166 check 8). -/
def takeSlot (c : CommandCopy) (report : List Byte) (n : NewContext) (standby : Bool) (key : AnchorKey)
    (named : Option SlotNo) (s : State) : State :=
  match firstFree s with
  | none => post c .noSlot report s
  | some k => startUnwrap n standby key named k s

/-! ## INSTALL -/

/-- What an INSTALL refused at its Start reports: the tag (R162; assumption 9). -/
def installReport (c : CommandCopy) : List Byte := bytesAt c.block 0x00 2

/-- Checks 3 to 6 of INSTALL on fields in range (R162). -/
def installChecked (c : CommandCopy) (n : NewContext) (standby : Bool) (s : State) : State :=
  if tagLocked s n.tag then post c .locked (installReport c) s
  else
    match anchorKey s n.anchor with
    | none => post c .anchorUnusable (installReport c) s
    | some key =>
      match admissionTest s n.tag standby (markerOf n.generation) with
      | some r => post c r (installReport c) s
      | none => takeSlot c (installReport c) n standby key none s

/-- INSTALL at its Start (R162, R163). -/
def runInstall (c : CommandCopy) (s : State) : State :=
  guarded c (installReport c) (fun s =>
    match installAt c.block with
    | none => post c .badField (installReport c) s
    | some (n, standby) => installChecked c n standby s) s

/-! ## SUCCEED -/

/-- Checks 5 to 8 of SUCCEED, on the named ACTIVE slot's record (R166). The wrapped key has the length of the resulting
key width because that many bytes of the block are read (assumption 21). The resulting low-life mark is compared with
the resulting byte life here alone, in check 5, even when both are overridden (assumption 33). -/
def succeedFrom (c : CommandCopy) (o : Overrides) (k : SlotNo) (x : Context) (s : State) : State :=
  let n := successor c.block o x
  if n.settings.lowMark ≤ n.life then
    match anchorKey s n.anchor with
    | none => post c .anchorUnusable [] s
    | some key =>
      if 2 ≤ (s.entry x.tag).bound.length then post c .tagFull [] s
      else takeSlot c [] n true key (some k) s
  else post c .badField [] s

/-- Check 4 of SUCCEED after the record check: the named slot must be ACTIVE (R161, R166). -/
def succeedActive (c : CommandCopy) (o : Overrides) (k : SlotNo) (s : State) : State :=
  match s.slot k with
  | some x => if x.state = .active then succeedFrom c o k x s else post c .noActive [] s
  | none => post c .noActive [] s

/-- SUCCEED at its Start (R166, R167). -/
def runSucceed (c : CommandCopy) (s : State) : State :=
  guarded c [] (fun s =>
    match overridesAt c.block with
    | none => post c .badField [] s
    | some o =>
      if slotLocked s (slotAt c.block 0x00) then post c .locked [] s
      else if s.slotIs (slotAt c.block 0x00) .active then
        succeedActive c o (slotAt c.block 0x00) (recordCheck .command none (slotAt c.block 0x00) s)
      else post c .noActive [] s) s

/-! ## The completion of the unwrap -/

/-- The pair as found, slot and state of each bound slot in place order (R164; assumption 10). -/
def pairReport (s : State) (t : Tag) : List Byte :=
  ((s.entry t).bound.map fun b => [slotByte b.1, slotStateByte (s.slot b.1)]).flatten

/-- The report of a DONE (R164, R167). -/
def installedReport (u : Unwrap) (x : Context) : List Byte :=
  match u.named with
  | none =>
    [slotByte u.slot] ++ bytesOf 2 x.tag.toNat
      ++ [x.generation, yesNo x.marker, ctxStateByte (if u.standby then .standby else .active)]
  | some k => [slotByte u.slot, x.generation, yesNo x.marker, slotByte k]

/-- The key written to the LOADING slot at unwrap success (R164, R178). -/
def writeKey (key : ContextKey) (c : Context) : Context :=
  { c with key := some key, checks := { c.checks with keyOk := true } }

/-- The completion recheck and the binding, or TAG_CONFLICT (R164 outcomes 2 and 3). -/
def recheckAndBind (c : CommandCopy) (u : Unwrap) (x : Context) (s : State) : State :=
  match admissionTest s x.tag u.standby x.marker with
  | some r =>
    post c .tagConflict (bytesOf 2 x.tag.toNat ++ [resultByte r] ++ pairReport s x.tag) (freeSlot u.slot s)
  | none => post c .done (installedReport u x) (bindSlot x.tag u.standby u.slot s)

/-- The completion of an unwrap, by its outcome (R164). -/
def finishUnwrap (c : CommandCopy) (u : Unwrap) (x : Context) (s : State) : State :=
  match unwrapAt c.block x.keyWidth u.anchorKey with
  | none => post c .unwrapFailed (bytesOf 2 x.tag.toNat) (freeSlot u.slot s)
  | some key => recheckAndBind c u x (s.updateSlot u.slot (writeKey key))

/-- UNWRAP_COMPLETION, while an unwrap is under way (R164). -/
def completeUnwrap (s : State) : State :=
  match s.unit, s.copy with
  | .unwrapping u, some c =>
    match s.slot u.slot with
    | some x => finishUnwrap c u x s
    | none => s
  | _, _ => s

/-! ## The steps -/

/-- INSTALL: 01h written to Start. -/
def execInstall (s : State) : Host.Outcome State Fault Refusal := .next (writeStart 0x01 runInstall s)

/-- SUCCEED: 02h written to Start. -/
def execSucceed (found : List Damage) (s : State) : Host.Outcome State Fault Refusal :=
  .next (writeStart 0x02 (fun c s => runSucceed c (damage found s)) s)

/-- UNWRAP_COMPLETION (R164). -/
def execUnwrapCompletion (s : State) : Host.Outcome State Fault Refusal := .next (whenRunning completeUnwrap s)

end Sys2Proof.Machine
end

