-- ==== Sys2Proof/Machine/ContextCommands.lean ====
section
/-! DEFINITION. ACTIVATE, RETIRE, MODIFY, PURGE, QUERY and QUERY_TAG (sections 8.5 to 8.8). -/

namespace Sys2Proof.Machine

/-- An in-flight count as a reported byte; at most 8 (R16). -/
def inFlightByte (s : State) (k : SlotNo) : Byte :=
  match s.slot k with
  | some c => BitVec.ofNat 8 c.inFlight
  | none => 0

/-- The lock checks of a command that names a slot: LOCK_LINE, then LOCKED, then the command's own checks (R158 to
R160). -/
def onSlot (go : CommandCopy → SlotNo → State → State) (c : CommandCopy) (s : State) : State :=
  guarded c [] (fun s =>
    if slotLocked s (slotAt c.block 0x00) then post c .locked [] s else go c (slotAt c.block 0x00) s) s

/-! ## ACTIVATE -/

/-- The new ACTIVE, the partner if any, and the partner's state (R168). -/
def activateReport (k : SlotNo) (s : State) : List Byte :=
  match s.slot k with
  | some c =>
    match partnerOf s c.tag k with
    | some p => [slotByte k, slotByte p, slotStateByte (s.slot p)]
    | none => [slotByte k]
  | none => []

/-- After the roll-over's reads: DONE if it was made (R38, R168). -/
def activateDone (c : CommandCopy) (k : SlotNo) (s : State) : State :=
  if s.slotIs k .active then post c .done (activateReport k s) s else post c .badState [] s

/-- ACTIVATE after its lock checks: roll-over of a STANDBY, else BAD_STATE (R39, R168). -/
def activateSlot (c : CommandCopy) (k : SlotNo) (s : State) : State :=
  if s.slotIs k .standby then activateDone c k (rollOver .command none k s) else post c .badState [] s

/-- ACTIVATE (R39, R168). -/
def runActivate (c : CommandCopy) (s : State) : State := onSlot activateSlot c s

/-! ## RETIRE -/

/-- The three states retire applies to (R17). -/
def CtxState.retirable : CtxState → Bool
  | .standby | .active | .draining => true
  | .loading | .retiring | .quarantined => false

/-- The slot is in a state retire applies to. -/
def slotRetirable (s : State) (k : SlotNo) : Bool := (s.slot k).any fun c => c.state.retirable

/-- The slot's state after a retire and its in-flight count (R169). -/
def retireReport (k : SlotNo) (s : State) : List Byte := [slotStateByte (s.slot k), inFlightByte s k]

/-- Retire after the record check: on a slot quarantined by it, BAD_STATE (R161, R169). -/
def retireChecked (c : CommandCopy) (k : SlotNo) (s : State) : State :=
  if slotRetirable s k then post c .done (retireReport k (retireSlot k s)) (retireSlot k s)
  else post c .badState [] s

/-- RETIRE after its lock checks, by the slot's state (R169). -/
def retireNamed (c : CommandCopy) (k : SlotNo) (s : State) : State :=
  match s.slot k with
  | none => post c .notInUse [] s
  | some x =>
    match x.state with
    | .standby | .active | .draining => retireChecked c k (recordCheck .command none k s)
    | .retiring => post c .alreadyRetiring [] s
    | .loading | .quarantined => post c .badState [] s

/-- RETIRE (R169). -/
def runRetire (c : CommandCopy) (s : State) : State := onSlot retireNamed c s

/-! ## MODIFY -/

/-- The settings as reported, in the order of Table 8-5 (R170; assumption 11). -/
def settingsReport (x : Settings) : List Byte :=
  [dirPermByte x.direction] ++ bytesOf 2 x.recipes.toNat ++ [ctxFlagsByte x.flags, x.verifyLimit]
    ++ bytesOf 5 x.lowMark.toNat ++ bytesOf 2 x.drainBudget.toNat ++ bytesOf 2 x.drainTime.toNat
    ++ bytesOf 6 x.ceiling.toNat

/-- The slot, its state and its settings; no settings for a slot gone FREE (R170; assumption 11). -/
def modifyReport (k : SlotNo) (s : State) : List Byte :=
  [slotByte k, slotStateByte (s.slot k)] ++
    match s.slot k with
    | some c => settingsReport c.settings
    | none => []

/-- The checks that need the record: the low-life mark and the ceiling (R170 check 6). -/
def changesFit (ch : SettingChanges) (c : Context) : Bool :=
  (ch.lowMark.all fun m => decide (m ≤ c.lifeInstalled)) && ch.ceiling.all fun m => decide (c.nextSeq.toNat ≤ m.toNat + 1)

/-- Change the selected settings together (R171). -/
def applyChanges (ch : SettingChanges) (c : Context) : Context := { c with settings := ch.apply c.settings }

/-- A new non-zero budget compared at once with the drain progress of a DRAINING slot (R20, R171). -/
def budgetTest (ch : SettingChanges) (k : SlotNo) (s : State) : State :=
  if ch.drainBudget.isSome && (s.slot k).any fun c => c.state == .draining && budgetReached c then
    drainEnd .budget .command none k s
  else s

/-- MODIFY's changes and its completion (R170, R171). -/
def modifyApply (c : CommandCopy) (ch : SettingChanges) (k : SlotNo) (s : State) : State :=
  let s := budgetTest ch k (s.updateSlot k (applyChanges ch))
  post c .done (modifyReport k s) s

/-- MODIFY after the record check (R170 checks 5 and 6). -/
def modifyChecked (c : CommandCopy) (ch : SettingChanges) (k : SlotNo) (s : State) : State :=
  match s.slot k with
  | some x =>
    if x.state.retirable then
      if changesFit ch x then modifyApply c ch k s else post c .badField [] s
    else post c .badState [] s
  | none => post c .badState [] s

/-- MODIFY (R170, R171). -/
def runModify (c : CommandCopy) (s : State) : State :=
  guarded c [] (fun s =>
    match modifyChangesAt c.block with
    | none => post c .badField [] s
    | some ch =>
      let k := slotAt c.block 0x00
      if slotLocked s k then post c .locked [] s
      else if slotRetirable s k then modifyChecked c ch k (recordCheck .command none k s)
      else post c .badState [] s) s

/-! ## PURGE -/

/-- A QUARANTINED slot freed: unbound if it was bound, FREE (R24, R172). -/
def purgeSlot (k : SlotNo) (x : Context) (s : State) : State := freeSlot k (unbind x.tag k s)

/-- PURGE after its lock checks (R172). -/
def purgeNamed (c : CommandCopy) (k : SlotNo) (s : State) : State :=
  match s.slot k with
  | some x =>
    if x.state = .quarantined then
      if (s.cond k).isNone ∧ x.inFlight = 0 then
        post c .done ([slotByte k] ++ bytesOf 2 x.tag.toNat ++ [yesNo (placeInDir s k).isSome]) (purgeSlot k x s)
      else post c .pending [yesNo (s.cond k).isSome, inFlightByte s k] s
    else post c .badState [] s
  | none => post c .badState [] s

/-- PURGE (R172). -/
def runPurge (c : CommandCopy) (s : State) : State := onSlot purgeNamed c s

/-! ## QUERY and QUERY_TAG -/

/-- The place of a bound slot, one byte; nothing for a slot that is not bound (R173). -/
def placeReport (k : SlotNo) (s : State) : List Byte := ((placeInDir s k).map placeByte).toList

/-- Every field of Table 1-1 except the key, in the order of R173. -/
def queryReport (k : SlotNo) (x : Context) (s : State) : List Byte :=
  [ctxStateByte x.state] ++ bytesOf 2 x.tag.toNat
    ++ [x.generation, yesNo x.marker, BitVec.ofNat 8 x.anchor.val, keyWidthByte x.keyWidth]
    ++ bytesOf 4 x.salt.toNat ++ [dirPermByte x.settings.direction] ++ bytesOf 2 x.settings.recipes.toNat
    ++ [ctxFlagsByte x.settings.flags] ++ bytesOf 6 x.nextSeq.toNat ++ bytesOf 6 x.settings.ceiling.toNat
    ++ bytesOf 5 x.lifeInstalled.toNat ++ bytesOf 5 x.lifeLeft.toNat ++ bytesOf 5 x.settings.lowMark.toNat
    ++ [yesNo x.lowReported, yesNo x.spent] ++ bytesOf 6 x.watermark.toNat
    ++ [x.verifyFailures, x.settings.verifyLimit] ++ bytesOf 2 x.settings.drainBudget.toNat
    ++ bytesOf 2 x.settings.drainTime.toNat ++ bytesOf 2 x.drainProgress.toNat ++ bytesOf 2 x.timerLeft.toNat
    ++ [yesNo x.timerRuns, BitVec.ofNat 8 x.inFlight] ++ bytesOf 4 x.framesProtected.toNat
    ++ bytesOf 4 x.framesAdmitted.toNat ++ bytesOf 4 x.framesRefused.toNat ++ [yesNo (s.cond k).isSome]
    ++ placeReport k s

/-- QUERY after the record check (R173). -/
def querySlot (c : CommandCopy) (k : SlotNo) (s : State) : State :=
  match s.slot k with
  | some x => post c .done (queryReport k x s) s
  | none => post c .notInUse [slotStateByte none] s

/-- QUERY (R173). -/
def runQuery (c : CommandCopy) (s : State) : State :=
  querySlot c (slotAt c.block 0x00) (recordCheck .command none (slotAt c.block 0x00) s)

/-- What QUERY_TAG reports of a bound slot: slot, state, place, generation, marker (R48, Table 10-11). -/
def boundReport (s : State) (b : SlotNo × Place) : List Byte :=
  match s.slot b.1 with
  | some x => [slotByte b.1, ctxStateByte x.state, placeByte b.2, x.generation, yesNo x.marker]
  | none => [slotByte b.1, slotStateByte none, placeByte b.2, 0, 0]

/-- The report of QUERY_TAG (R48, Table 10-11). -/
def tagReport (t : Tag) (s : State) : List Byte :=
  bytesOf 2 t.toNat ++ bytesOf 1 (s.entry t).bound.length ++ ((s.entry t).bound.map (boundReport s)).flatten

/-- QUERY_TAG (R48; assumption 12 for a tag with no entry). -/
def runQueryTag (c : CommandCopy) (s : State) : State :=
  match tagAt c.block 0x00 with
  | none => post c .badField [] s
  | some t =>
    if s.entry t = DirEntry.empty then post c .notInUse (tagReport t s) s else post c .done (tagReport t s) s

/-! ## The steps -/

/-- ACTIVATE: 03h written to Start. -/
def execActivate (found : List Damage) (s : State) : Host.Outcome State Fault Refusal :=
  .next (writeStart 0x03 (fun c s => runActivate c (damage found s)) s)

/-- RETIRE: 04h written to Start. -/
def execRetire (found : List Damage) (s : State) : Host.Outcome State Fault Refusal :=
  .next (writeStart 0x04 (fun c s => runRetire c (damage found s)) s)

/-- MODIFY: 05h written to Start. -/
def execModify (found : List Damage) (s : State) : Host.Outcome State Fault Refusal :=
  .next (writeStart 0x05 (fun c s => runModify c (damage found s)) s)

/-- PURGE: 06h written to Start. -/
def execPurge (s : State) : Host.Outcome State Fault Refusal := .next (writeStart 0x06 runPurge s)

/-- QUERY: 07h written to Start. -/
def execQuery (found : List Damage) (s : State) : Host.Outcome State Fault Refusal :=
  .next (writeStart 0x07 (fun c s => runQuery c (damage found s)) s)

/-- QUERY_TAG: 08h written to Start. -/
def execQueryTag (s : State) : Host.Outcome State Fault Refusal := .next (writeStart 0x08 runQueryTag s)

end Sys2Proof.Machine
end

