-- ==== Sys2Proof/Machine/Collect.lean ====
section
/-! DEFINITION. COLLECT and COLLECT_NEXT (section 7.5, Table 10-10). -/

namespace Sys2Proof.Machine

/-- A code with a valid flag: zero when the flag is clear (R136, R195). -/
def codeOr {α : Type} (f : α → Byte) (x : Option α) : Byte := (x.map f).getD 0

/-- The validity and flags byte of a Condition Record (Table 10-10, 8Ah). -/
def recordFlags (r : CondRecord) : Byte :=
  BitVec.ofBoolListLE
    [r.holding, r.ancillary, r.phase.isSome, r.lane.isSome, r.seq.isSome, r.group.isSome, r.reason.isSome, false]

/-- 87h to 95h of a collected record (Table 10-10). -/
def recordReport (r : CondRecord) : List Byte :=
  [condClassByte r.primary, r.classes, BitVec.ofNat 8 r.overlap, recordFlags r, codeOr condPhaseByte r.phase,
    codeOr laneByte r.lane, codeOr groupByte r.group, codeOr reasonByte r.reason, endingByte r.ending]
    ++ bytesOf 6 (r.seq.getD 0).toNat

/-- 82h to 86h: slot, state, in-flight count, queue length as it then stands (Table 10-10). -/
def collectHead (k : SlotNo) (s : State) : List Byte :=
  [slotByte k, slotStateByte (s.slot k), inFlightByte s k] ++ bytesOf 2 s.attention.length

/-- Report and delete the record of a slot, one change (R146). -/
def collectRecord (c : CommandCopy) (k : SlotNo) (r : CondRecord) (s : State) : State :=
  post c .done (collectHead k (deleteCond k s) ++ recordReport r) (deleteCond k s)

/-- COLLECT (R147; assumption 12 for the in-flight byte of NOTHING_PENDING). -/
def runCollect (c : CommandCopy) (s : State) : State :=
  match s.cond (slotAt c.block 0x00) with
  | some r => collectRecord c (slotAt c.block 0x00) r s
  | none => post c .nothingPending (collectHead (slotAt c.block 0x00) s) s

/-- COLLECT_NEXT (R148). An empty Attention Queue has length 0, so the report is all zero. -/
def runCollectNext (c : CommandCopy) (s : State) : State :=
  match s.attention with
  | [] => post c .nothingPending [] s
  | k :: _ =>
    match s.cond k with
    | some r => collectRecord c k r s
    | none => post c .nothingPending [] s

/-- COLLECT: 20h written to Start. -/
def execCollect (s : State) : Host.Outcome State Fault Refusal := .next (writeStart 0x20 runCollect s)

/-- COLLECT_NEXT: 21h written to Start. -/
def execCollectNext (s : State) : Host.Outcome State Fault Refusal := .next (writeStart 0x21 runCollectNext s)

end Sys2Proof.Machine
end

