-- ==== Sys2Proof/Machine/Anchors.lean ====
section
/-! DEFINITION. The Anchor Store's commands and their completions (chapter 9). -/

namespace Sys2Proof.Machine

/-- The index byte of an anchor command. -/
def anchorIndexByte (c : CommandCopy) : Byte := byteAt c.block 0x00

/-- The index and the anchor's state, reported by a refused anchor command; state zero when there is no such anchor
(R179, R181; assumption 13). -/
def anchorReport (c : CommandCopy) (s : State) : List Byte :=
  [anchorIndexByte c, ((indexAt c.block 0x00 8).map fun a => anchorStateByte (s.anchor a).state).getD 0]

/-- The anchor key a PROGRAM_ANCHOR carries (Table 10-7 note). -/
def carriedKey (c : CommandCopy) : AnchorKey := wordAt c.block 0x20 32 256

/-- Give an anchor a state, a key and no open write. -/
def closeAnchor (a : AnchorNo) (x : AnchorState) (key : Option AnchorKey) (s : State) : State :=
  s.setAnchor a { state := x, key := key, openWrite := none }

/-- Open a write on an anchor; its recorded state stands until the write is closed (R179, R181, R182). -/
def openAnchor (a : AnchorNo) (w : AnchorWrite) (s : State) : State :=
  s.setAnchor a { s.anchor a with openWrite := some w }

/-! ## PROGRAM_ANCHOR -/

/-- Check 3 of PROGRAM_ANCHOR, and the opening of the write (R179). -/
def programStart (c : CommandCopy) (a : AnchorNo) (s : State) : State :=
  if (s.anchor a).state = .blank then { openAnchor a .programming s with unit := .programming a }
  else post c .anchorUsed (anchorReport c s) s

/-- PROGRAM_ANCHOR at its Start (R179). -/
def runProgramAnchor (c : CommandCopy) (s : State) : State :=
  guarded c (anchorReport c s) (fun s =>
    match indexAt c.block 0x00 8 with
    | none => post c .badField (anchorReport c s) s
    | some a => if carriedKey c = 0 then post c .badField (anchorReport c s) s else programStart c a s) s

/-- The key bytes discarded in the copy and zeroed in the Command Block (R180; assumption 29). -/
def wipeKey (c : CommandCopy) (s : State) : State :=
  { s with copy := some { c with block := zeroBytes c.block 0x20 32 }, commandBlock := zeroBytes s.commandBlock 0x20 32 }

/-- The completion of a programming write, by the key read back (R180; assumption 14). -/
def finishProgram (c : CommandCopy) (a : AnchorNo) (readBack : Option AnchorKey) (s : State) : State :=
  if readBack = some (carriedKey c) then
    post c .done [anchorIndexByte c, anchorStateByte .programmed]
      (wipeKey c (closeAnchor a .programmed (some (carriedKey c)) s))
  else
    post c .anchorFailed [anchorIndexByte c, anchorStateByte .defective] (wipeKey c (closeAnchor a .defective none s))

/-- ANCHOR_PROGRAM_COMPLETE, while a programming write is open (R180). -/
def completeProgram (readBack : Option AnchorKey) (s : State) : State :=
  match s.unit, s.copy with
  | .programming a, some c => finishProgram c a readBack s
  | _, _ => s

/-! ## REVOKE_ANCHOR -/

/-- Check 3 of REVOKE_ANCHOR, and the opening of the write (R181). -/
def revokeStart (c : CommandCopy) (a : AnchorNo) (s : State) : State :=
  if (s.anchor a).state = .programmed then { openAnchor a .revoking s with unit := .revoking a }
  else post c .badState (anchorReport c s) s

/-- REVOKE_ANCHOR at its Start (R181). -/
def runRevokeAnchor (c : CommandCopy) (s : State) : State :=
  guarded c (anchorReport c s) (fun s =>
    match indexAt c.block 0x00 8 with
    | none => post c .badField (anchorReport c s) s
    | some a => revokeStart c a s) s

/-- The completion of a revoke write, by the state read back: REVOKED with the key erased, or DEFECTIVE; DONE in both
cases (R181; assumption 14). -/
def finishRevoke (c : CommandCopy) (a : AnchorNo) (readBack : AnchorState) (s : State) : State :=
  if readBack = .revoked then
    post c .done [anchorIndexByte c, anchorStateByte .revoked] (closeAnchor a .revoked none s)
  else
    post c .done [anchorIndexByte c, anchorStateByte .defective] (closeAnchor a .defective (s.anchor a).key s)

/-- ANCHOR_REVOKE_COMPLETE, while a revoke write is open (R181). -/
def completeRevoke (readBack : AnchorState) (s : State) : State :=
  match s.unit, s.copy with
  | .revoking a, some c => finishRevoke c a readBack s
  | _, _ => s

/-! ## READ_ANCHOR_STATE and the start-up scan -/

/-- READ_ANCHOR_STATE: the state of each anchor, in index order (R183, Table 10-11). -/
def runReadAnchorState (c : CommandCopy) (s : State) : State :=
  post c .done (s.anchors.toList.map fun x => anchorStateByte x.state) s

/-- The start-up scan of one anchor: an open programming write makes it DEFECTIVE, an open revoke write leaves it
PROGRAMMED, and the write is closed (R182; assumption 14). -/
def scanAnchor (x : Anchor) : Anchor :=
  match x.openWrite with
  | some .programming => { state := .defective, key := none, openWrite := none }
  | some .revoking => { x with openWrite := none }
  | none => x

/-! ## The steps -/

/-- PROGRAM_ANCHOR: 28h written to Start. -/
def execProgramAnchor (s : State) : Host.Outcome State Fault Refusal := .next (writeStart 0x28 runProgramAnchor s)

/-- ANCHOR_PROGRAM_COMPLETE (R180). -/
def execAnchorProgramComplete (readBack : Option AnchorKey) (s : State) : Host.Outcome State Fault Refusal :=
  .next (whenRunning (completeProgram readBack) s)

/-- REVOKE_ANCHOR: 29h written to Start. -/
def execRevokeAnchor (s : State) : Host.Outcome State Fault Refusal := .next (writeStart 0x29 runRevokeAnchor s)

/-- ANCHOR_REVOKE_COMPLETE (R181). -/
def execAnchorRevokeComplete (readBack : AnchorState) (s : State) : Host.Outcome State Fault Refusal :=
  .next (whenRunning (completeRevoke readBack) s)

/-- READ_ANCHOR_STATE: 2Ah written to Start. -/
def execReadAnchorState (s : State) : Host.Outcome State Fault Refusal :=
  .next (writeStart 0x2A runReadAnchorState s)

end Sys2Proof.Machine
end

