-- ==== Sys2Proof/Machine/Locks.lean ====
section
/-! DEFINITION. The Lock Unit's commands, and the LOCK# line (chapter 9). -/

namespace Sys2Proof.Machine

/-- The range is in use with its sticky flag set (R185, R186). -/
def stickyRange (s : State) (n : RangeNo) : Bool := (s.lockRange n).any fun r => r.sticky

/-- A lock range as reported: in use, sticky, low tag, high tag; zeros when unused (R187, Table 10-11). -/
def rangeReport (r : Option LockRange) : List Byte :=
  match r with
  | some r => [yesNo true, yesNo r.sticky] ++ bytesOf 2 r.low.toNat ++ bytesOf 2 r.high.toNat
  | none => [0, 0, 0, 0, 0, 0]

/-- The index of a range as reported; its width, one byte, is the model's choice (assumption 31). -/
def rangeByte (n : RangeNo) : Byte := BitVec.ofNat 8 n.val

/-- The sticky field, 00h or 01h (Table 10-7 note). -/
def stickyOf (b : Byte) : Option Bool := if b = 0x00 then some false else if b = 0x01 then some true else none

/-- The range a SET_LOCK carries, if its fields are in range: tags 1 to 65535, low at or below high (R185 check 2). -/
def lockRangeAt (b : Block) : Option LockRange :=
  match stickyOf (byteAt b 0x01), tagAt b 0x02, tagAt b 0x04 with
  | some sticky, some low, some high => if low ≤ high then some ⟨low, high, sticky⟩ else none
  | _, _, _ => none

/-- SET_LOCK (R185). -/
def runSetLock (c : CommandCopy) (s : State) : State :=
  guarded c [] (fun s =>
    match indexAt c.block 0x00 4, lockRangeAt c.block with
    | some n, some r =>
      if stickyRange s n then post c .sticky [] s
      else post c .done (rangeByte n :: rangeReport (some r)) (s.setLockRange n (some r))
    | _, _ => post c .badField [] s) s

/-- CLEAR_LOCK (R186). -/
def runClearLock (c : CommandCopy) (s : State) : State :=
  guarded c [] (fun s =>
    match indexAt c.block 0x00 4 with
    | some n =>
      if stickyRange s n then post c .sticky [] s
      else post c .done (rangeByte n :: rangeReport none) (s.setLockRange n none)
    | none => post c .badField [] s) s

/-- READ_LOCKS (R187, Table 10-11). -/
def runReadLocks (c : CommandCopy) (s : State) : State :=
  post c .done (s.locks.toList.map rangeReport).flatten s

/-- The level LOCK# takes (R188). The line has no state in the part, and is an input at any time. -/
def lockLineTakes (asserted : Bool) (s : State) : State := { s with lockLine := asserted }

/-- SET_LOCK: 30h written to Start. -/
def execSetLock (s : State) : Host.Outcome State Fault Refusal := .next (writeStart 0x30 runSetLock s)

/-- CLEAR_LOCK: 31h written to Start. -/
def execClearLock (s : State) : Host.Outcome State Fault Refusal := .next (writeStart 0x31 runClearLock s)

/-- READ_LOCKS: 32h written to Start. -/
def execReadLocks (s : State) : Host.Outcome State Fault Refusal := .next (writeStart 0x32 runReadLocks s)

/-- LOCK_LINE_LEVEL (R188). -/
def execLockLineLevel (asserted : Bool) (s : State) : Host.Outcome State Fault Refusal :=
  .next (lockLineTakes asserted s)

end Sys2Proof.Machine
end

