-- ==== Sys2Proof/Machine/Resets.lean ====
section
/-! DEFINITION. SOFT_RESET, hard reset, power and start-up (sections 1.12, 4.6, 5.5, 6.9, 7.8, 8.9, 8.10, 9.5, 10.6). -/

namespace Sys2Proof.Machine

/-! ## SOFT_RESET -/

/-- The record after a soft reset: a RETIRING slot goes FREE, the others keep all but their in-flight count (R25). -/
def Context.afterSoftReset (c : Context) : Option Context :=
  if c.state = .retiring then none else some { c with inFlight := 0 }

/-- The Context Table and the Attention Unit: RETIRING slots freed with their records, in-flight counts 0 (R5, R25,
R151). -/
def softResetSlots (s : State) : State :=
  { s with
    slots := s.slots.map fun c => c.bind Context.afterSoftReset
    conds := Vector.ofFn fun k => if s.slotIs k .retiring then none else s.conds[k]
    attention := s.attention.filter fun k => !s.slotIs k .retiring }

/-- OUT keeps a frame only while its result is in sending from that lane (R112, R134). -/
def keptOut (s : State) (l : LaneId) : Option OutFrame :=
  match s.sending with
  | some x => if x.lane = some l then (s.lane l).out else none
  | none => none

/-- Both lanes emptied and ONLINE, the intake and the arbiter as after reset, the queue's entries dropped, the recipes'
counts 0 (R71, R93, R112, R134). -/
def softResetFrames (s : State) : State :=
  { s with
    recipes := s.recipes.map fun r => { r with inFlight := 0 }
    intake := .awaitJob
    lastLane := .laneB
    laneA := { Lane.initial with out := keptOut s .laneA }
    laneB := { Lane.initial with out := keptOut s .laneB }
    queue := [] }

/-- The entry is a LANE entry that names the slot. -/
def Entry.names (k : SlotNo) : Entry → Bool
  | .lane e => e.job.slot == k
  | .refused _ => false

/-- The slots that a dropped LANE entry names and that a condition can be raised on, in rising order (R152). -/
def lostSlots (dropped : List Entry) (s : State) : List SlotNo :=
  (List.finRange 256).filter fun k => dropped.any (Entry.names k) && raisable s k

/-- FRAMES_LOST on a slot, with the ending DISCARDED (R152). -/
def framesLost (s : State) (k : SlotNo) : State :=
  applyEnding .discarded k (raiseOn { cls := .framesLost, phase := some .command } k s)

/-- The number of RETIRING slots. -/
def retiringCount (s : State) : Nat := s.slots.toList.countP fun c => c.any fun x => x.state == .retiring

/-- The soft reset of every block (R174). -/
def softReset (s : State) : State :=
  (lostSlots s.queue (softResetSlots s)).foldl framesLost (softResetFrames (softResetSlots s))

/-- The report of SOFT_RESET: entries dropped, RETIRING slots freed, slots on which FRAMES_LOST was raised (R174). One byte
for the number of entries is the model's choice (assumption 31). -/
def softResetReport (s : State) : List Byte :=
  bytesOf 1 s.queue.length ++ bytesOf 1 (retiringCount s)
    ++ bytesOf 1 (lostSlots s.queue (softResetSlots s)).length

/-- SOFT_RESET (R174). -/
def runSoftReset (c : CommandCopy) (s : State) : State := post c .done (softResetReport s) (softReset s)

/-! ## Hard reset, power and start-up -/

/-- A transaction in progress is abandoned: the rest of it is ignored until CS# rises (R189; assumption 34). -/
def Port.abandoned : Port → Port
  | .deselected => .deselected
  | .ignoring | .instruction _ | .address _ _ | .writing _ _ | .reading _ => .ignoring

/-- Every block in its hard-reset and power-on state, a transaction abandoned; anchors with an open write and the lines
are kept, and so are the serial line's events and the queue of commands, which are outside the part (R26, R50, R71, R94,
R113, R135, R153, R175, R176, R182, R184, R189). -/
def hardReset (s : State) : State :=
  { State.reset with
    anchors := s.anchors
    lockLine := s.lockLine
    rstLine := s.rstLine
    power := s.power
    port := s.port.abandoned
    serial := s.serial
    pending := s.pending }

/-- RST# taken low: a hard reset of a powered part, its start-up still to come (R196; assumption 15 for a part without
power). -/
def assertRst (s : State) : State :=
  if s.power = .off then { s with rstLine := true } else { hardReset s with rstLine := true, power := .startUp }

/-- RST# released: start-up begins, if the part has power (R196). -/
def releaseRst (s : State) : State := { s with rstLine := false }

/-- Power applied: the power-on state, start-up to come (R196; assumption 15 for a part that has power). -/
def powerOn (s : State) : State := if s.power = .off then { hardReset s with power := .startUp } else s

/-- Power lost: all but the Anchor Store's non-volatile storage is lost (R176, R182; assumption 15). -/
def powerLoss (s : State) : State := { hardReset s with power := .off }

/-- The start-up scan of the eight anchors (R182). -/
def scanAnchors (s : State) : State := { s with anchors := s.anchors.map scanAnchor }

/-- The end of start-up, with RST# released: the scan is made and the ports start taking transactions and words
(R196). -/
def endStartup (s : State) : State :=
  if s.power = .startUp ∧ s.rstLine = false then { scanAnchors s with power := .running } else s

/-! ## The steps -/

/-- SOFT_RESET: 09h written to Start. -/
def execSoftReset (s : State) : Host.Outcome State Fault Refusal := .next (writeStart 0x09 runSoftReset s)

/-- RST_ASSERT (R196). -/
def execRstAssert (s : State) : Host.Outcome State Fault Refusal := .next (assertRst s)

/-- RST_RELEASE (R196). -/
def execRstRelease (s : State) : Host.Outcome State Fault Refusal := .next (releaseRst s)

/-- POWER_ON (R196). -/
def execPowerOn (s : State) : Host.Outcome State Fault Refusal := .next (powerOn s)

/-- POWER_LOSS (R182). -/
def execPowerLoss (s : State) : Host.Outcome State Fault Refusal := .next (powerLoss s)

/-- STARTUP_END (R196). -/
def execStartupEnd (s : State) : Host.Outcome State Fault Refusal := .next (endStartup s)

end Sys2Proof.Machine
end

