-- ==== Sys2Proof/Machine/Flags.lean ====
section
/-! DEFINITION. The interrupt flags and mask, ATTN#, and what the Register Window shows (sections 7.4 and 10.2). -/

namespace Sys2Proof.Machine

/-- ATTN# is driven low: an enabled flag is set, or the Attention Queue is not empty and its enable is set (R145). It is
released under RST# and until start-up has ended (R196). -/
def attnDriven (s : State) : Bool :=
  decide (s.power = .running)
    && ((s.commandDone && s.mask.commandDone) || (s.startRefused && s.mask.startRefused)
      || (s.laneDown && s.mask.laneDown) || (!s.attention.isEmpty && s.mask.attention))

/-- Device status, 02h (Table 10-3, R191). -/
def deviceStatus (s : State) : Byte :=
  BitVec.ofBoolListLE
    [s.unit != .idle, s.laneA.state == .online, s.laneB.state == .online, s.lockLine, false, false, false, false]

/-- Interrupt flags, 05h (Table 10-3). -/
def flagsByte (s : State) : Byte :=
  BitVec.ofBoolListLE [s.commandDone, s.startRefused, s.laneDown, false, false, false, false, false]

/-- Interrupt mask, 06h (Table 10-3). -/
def maskByte (m : IntMask) : Byte :=
  BitVec.ofBoolListLE [m.commandDone, m.startRefused, m.laneDown, m.attention, false, false, false, false]

/-- Clear each flag whose bit is 1 (R190, R192). -/
def writeFlags (b : Byte) (s : State) : State :=
  { s with
    commandDone := s.commandDone && !b.getLsbD 0
    startRefused := s.startRefused && !b.getLsbD 1
    laneDown := s.laneDown && !b.getLsbD 2 }

/-- The mask a written byte spells; bits 7–4 are ignored (R190). -/
def maskOf (b : Byte) : IntMask where
  commandDone := b.getLsbD 0
  startRefused := b.getLsbD 1
  laneDown := b.getLsbD 2
  attention := b.getLsbD 3

/-- Set the mask (R190). -/
def writeMask (b : Byte) (s : State) : State := { s with mask := maskOf b }

/-- What a window location holds, once start-up has ended (Table 10-2, R191). Reads change nothing a command sees and
have no row (assumption 22). -/
def windowByte (addr : Byte) (s : State) : Byte :=
  if addr = 0x00 then 0x4C
  else if addr = 0x01 then 0x01
  else if addr = 0x02 then deviceStatus s
  else if addr = 0x03 then BitVec.ofNat 8 (s.attention.length / 256)
  else if addr = 0x04 then BitVec.ofNat 8 s.attention.length
  else if addr = 0x05 then flagsByte s
  else if addr = 0x06 then maskByte s.mask
  else if 0x10 ≤ addr ∧ addr ≤ 0x6F then byteAt s.commandBlock (addr.toNat - 0x10)
  else if 0x80 ≤ addr ∧ addr ≤ 0xDF then byteAt s.resultBlock (addr.toNat - 0x80)
  else 0x00

/-- INTERRUPT_FLAGS_WRITE (R192). -/
def execInterruptFlagsWrite (b : Byte) (s : State) : Host.Outcome State Fault Refusal :=
  .next (whenRunning (writeFlags b) s)

/-- INTERRUPT_MASK_WRITE (R190). -/
def execInterruptMaskWrite (b : Byte) (s : State) : Host.Outcome State Fault Refusal :=
  .next (whenRunning (writeMask b) s)

end Sys2Proof.Machine
end

