-- ==== Sys2Proof/WellFormed.lean ====
section
/-! DEFINITION. Which terms spell a step under its own row. The operand types leave three checks: a row that is told
apart from its neighbours by the byte or word it carries must carry such a one. `exec` is total all the same: a term
that fails a check is handled as the byte or word it carries (assumption 4). -/

namespace Sys2Proof

/-- The codes of Table 10-8 that name a command. -/
def commandCodes : List Byte :=
  [0x01, 0x02, 0x03, 0x04, 0x05, 0x06, 0x07, 0x08, 0x09, 0x10, 0x11, 0x12, 0x18, 0x19, 0x20, 0x21, 0x28, 0x29, 0x2A,
    0x30, 0x31, 0x32]

/-- The code a row writes to Start, for the rows that are Start writes of a named command (Table 10-8). -/
def Instr.startCode : Instr → Option Byte
  | .install => some 0x01
  | .succeed _ => some 0x02
  | .activate _ => some 0x03
  | .retire _ => some 0x04
  | .modify _ => some 0x05
  | .purge => some 0x06
  | .query _ => some 0x07
  | .queryTag => some 0x08
  | .softReset => some 0x09
  | .writeRecipe => some 0x10
  | .clearRecipe => some 0x11
  | .readRecipe => some 0x12
  | .abortLanes => some 0x18
  | .restoreLane => some 0x19
  | .collect => some 0x20
  | .collectNext => some 0x21
  | .programAnchor => some 0x28
  | .revokeAnchor => some 0x29
  | .readAnchorState => some 0x2A
  | .setLock => some 0x30
  | .clearLock => some 0x31
  | .readLocks => some 0x32
  | .jobFirstWord _ | .jobHeader _ _ _ | .frameWord _ | .discardWord _ | .stageToWork _ | .keyFetch _ => none
  | .header _ | .body _ | .tag _ | .workToOut _ | .laneFault _ | .release _ _ | .resultWord => none
  | .drainTimerExpiry _ | .unwrapCompletion | .anchorProgramComplete _ | .anchorRevokeComplete _ => none
  | .badCommand _ | .startRefused _ | .interruptFlagsWrite _ | .interruptMaskWrite _ | .registerWrite _ _ => none
  | .lockLineLevel _ | .rstAssert | .rstRelease | .powerOn | .powerLoss | .startupEnd => none

/-- The commands guarded by LOCK# (R159, Table 8-2). -/
def guardedCodes : List Byte := [0x01, 0x02, 0x03, 0x04, 0x05, 0x06, 0x10, 0x11, 0x28, 0x29, 0x30, 0x31]

/-- The locations whose writes have a row of their own: interrupt flags, interrupt mask and Start (Table 10-2). -/
def ownRowAddresses : List Byte := [0x05, 0x06, 0x70]

/-- The command is one its row can stand for. -/
def Instr.wellFormed : Instr → Bool
  | .jobHeader w _ _ => !w.first
  | .badCommand code => !commandCodes.contains code
  | .registerWrite addr _ => !ownRowAddresses.contains addr
  | .jobFirstWord _ | .frameWord _ | .discardWord _ | .stageToWork _ | .keyFetch _ | .header _ => true
  | .body _ | .tag _ | .workToOut _ => true
  | .laneFault _ | .release _ _ | .resultWord | .drainTimerExpiry _ | .install | .succeed _ | .unwrapCompletion => true
  | .activate _ | .retire _ | .modify _ | .purge | .query _ | .queryTag | .softReset | .writeRecipe => true
  | .clearRecipe | .readRecipe | .abortLanes | .restoreLane | .collect | .collectNext | .programAnchor => true
  | .anchorProgramComplete _ | .revokeAnchor | .anchorRevokeComplete _ | .readAnchorState | .setLock => true
  | .clearLock | .readLocks | .startRefused _ | .interruptFlagsWrite _ | .interruptMaskWrite _ => true
  | .lockLineLevel _ | .rstAssert | .rstRelease | .powerOn | .powerLoss | .startupEnd => true

end Sys2Proof
end

