-- ==== Sys2Proof/Machine/Window.lean ====
section
/-! DEFINITION. Writes to the Register Window by address: BAD_COMMAND, START_REFUSED and REGISTER_WRITE (R155, R158,
R190). A byte is handled by its address and by the state of the Command Unit, whichever row spelled it
(assumption 4). -/

namespace Sys2Proof.Machine

/-- A code that names no command completes at once with BAD_COMMAND (R158). -/
def runBadCommand (c : CommandCopy) (s : State) : State := post c .badCommand [] s

/-- The command a code names (Table 10-8). -/
def runOf (code : Byte) : CommandCopy → State → State :=
  if code = 0x01 then runInstall
  else if code = 0x02 then runSucceed
  else if code = 0x03 then runActivate
  else if code = 0x04 then runRetire
  else if code = 0x05 then runModify
  else if code = 0x06 then runPurge
  else if code = 0x07 then runQuery
  else if code = 0x08 then runQueryTag
  else if code = 0x09 then runSoftReset
  else if code = 0x10 then runWriteRecipe
  else if code = 0x11 then runClearRecipe
  else if code = 0x12 then runReadRecipe
  else if code = 0x18 then runAbortLanes
  else if code = 0x19 then runRestoreLane
  else if code = 0x20 then runCollect
  else if code = 0x21 then runCollectNext
  else if code = 0x28 then runProgramAnchor
  else if code = 0x29 then runRevokeAnchor
  else if code = 0x2A then runReadAnchorState
  else if code = 0x30 then runSetLock
  else if code = 0x31 then runClearLock
  else if code = 0x32 then runReadLocks
  else runBadCommand

/-- A byte written to Start (R154, R155, R158). -/
def startByte (code : Byte) (s : State) : State := writeStart code (runOf code) s

/-- A byte written to the Command Block, whatever the Command Unit's state; an offset beyond it writes nothing (R155,
R190). -/
def writeBlock (off : Nat) (b : Byte) (s : State) : State := { s with commandBlock := s.commandBlock.setIfInBounds off b }

/-- A byte written to a location, handled by the location's access (R190, Table 10-2). -/
def writeWindow (addr b : Byte) (s : State) : State :=
  if addr = 0x05 then writeFlags b s
  else if addr = 0x06 then writeMask b s
  else if addr = 0x70 then startByte b s
  else if 0x10 ≤ addr ∧ addr ≤ 0x6F then writeBlock (addr.toNat - 0x10) b s
  else s

/-- BAD_COMMAND (R158). -/
def execBadCommand (code : Byte) (s : State) : Host.Outcome State Fault Refusal := .next (startByte code s)

/-- START_REFUSED (R155). -/
def execStartRefused (code : Byte) (s : State) : Host.Outcome State Fault Refusal := .next (startByte code s)

/-- REGISTER_WRITE (R190). -/
def execRegisterWrite (addr b : Byte) (s : State) : Host.Outcome State Fault Refusal :=
  .next (whenRunning (writeWindow addr b) s)

/-! ## The row a byte written stands for -/

/-- The row of a code written to Start while the unit is IDLE, with no new damage. -/
def startRow (code : Byte) : Instr :=
  if code = 0x01 then .install
  else if code = 0x02 then .succeed []
  else if code = 0x03 then .activate []
  else if code = 0x04 then .retire []
  else if code = 0x05 then .modify []
  else if code = 0x06 then .purge
  else if code = 0x07 then .query []
  else if code = 0x08 then .queryTag
  else if code = 0x09 then .softReset
  else if code = 0x10 then .writeRecipe
  else if code = 0x11 then .clearRecipe
  else if code = 0x12 then .readRecipe
  else if code = 0x18 then .abortLanes
  else if code = 0x19 then .restoreLane
  else if code = 0x20 then .collect
  else if code = 0x21 then .collectNext
  else if code = 0x28 then .programAnchor
  else if code = 0x29 then .revokeAnchor
  else if code = 0x2A then .readAnchorState
  else if code = 0x30 then .setLock
  else if code = 0x31 then .clearLock
  else if code = 0x32 then .readLocks
  else .badCommand code

/-- The row of a byte written to a location. -/
def writeRow (addr b : Byte) : Instr :=
  if addr = 0x05 then .interruptFlagsWrite b
  else if addr = 0x06 then .interruptMaskWrite b
  else if addr = 0x70 then startRow b
  else .registerWrite addr b

end Sys2Proof.Machine
end

