-- ==== Sys2Proof/Machine/Dispatch.lean ====
section
/-! DEFINITION. The command's meaning: one arm per row of the opcode table. -/

namespace Sys2Proof.Machine

def exec (i : Instr) (s : State) : Host.Outcome State Fault Refusal :=
  match i with
  | .jobFirstWord w => Sys2Proof.Machine.execJobFirstWord w s
  | .jobHeader w atLookup atRoll => Sys2Proof.Machine.execJobHeader w atLookup atRoll s
  | .frameWord w => Sys2Proof.Machine.execFrameWord w s
  | .discardWord w => Sys2Proof.Machine.execDiscardWord w s
  | .stageToWork l => Sys2Proof.Machine.execStageToWork l s
  | .keyFetch l => Sys2Proof.Machine.execKeyFetch l s
  | .header l => Sys2Proof.Machine.execHeader l s
  | .body l => Sys2Proof.Machine.execBody l s
  | .tag l => Sys2Proof.Machine.execTag l s
  | .workToOut l => Sys2Proof.Machine.execWorkToOut l s
  | .laneFault l => Sys2Proof.Machine.execLaneFault l s
  | .release atRead atRoll => Sys2Proof.Machine.execRelease atRead atRoll s
  | .resultWord => Sys2Proof.Machine.execResultWord s
  | .drainTimerExpiry k => Sys2Proof.Machine.execDrainTimerExpiry k s
  | .install => Sys2Proof.Machine.execInstall s
  | .succeed found => Sys2Proof.Machine.execSucceed found s
  | .unwrapCompletion => Sys2Proof.Machine.execUnwrapCompletion s
  | .activate found => Sys2Proof.Machine.execActivate found s
  | .retire found => Sys2Proof.Machine.execRetire found s
  | .modify found => Sys2Proof.Machine.execModify found s
  | .purge => Sys2Proof.Machine.execPurge s
  | .query found => Sys2Proof.Machine.execQuery found s
  | .queryTag => Sys2Proof.Machine.execQueryTag s
  | .softReset => Sys2Proof.Machine.execSoftReset s
  | .writeRecipe => Sys2Proof.Machine.execWriteRecipe s
  | .clearRecipe => Sys2Proof.Machine.execClearRecipe s
  | .readRecipe => Sys2Proof.Machine.execReadRecipe s
  | .abortLanes => Sys2Proof.Machine.execAbortLanes s
  | .restoreLane => Sys2Proof.Machine.execRestoreLane s
  | .collect => Sys2Proof.Machine.execCollect s
  | .collectNext => Sys2Proof.Machine.execCollectNext s
  | .programAnchor => Sys2Proof.Machine.execProgramAnchor s
  | .anchorProgramComplete readBack => Sys2Proof.Machine.execAnchorProgramComplete readBack s
  | .revokeAnchor => Sys2Proof.Machine.execRevokeAnchor s
  | .anchorRevokeComplete readBack => Sys2Proof.Machine.execAnchorRevokeComplete readBack s
  | .readAnchorState => Sys2Proof.Machine.execReadAnchorState s
  | .setLock => Sys2Proof.Machine.execSetLock s
  | .clearLock => Sys2Proof.Machine.execClearLock s
  | .readLocks => Sys2Proof.Machine.execReadLocks s
  | .badCommand code => Sys2Proof.Machine.execBadCommand code s
  | .startRefused code => Sys2Proof.Machine.execStartRefused code s
  | .interruptFlagsWrite b => Sys2Proof.Machine.execInterruptFlagsWrite b s
  | .interruptMaskWrite b => Sys2Proof.Machine.execInterruptMaskWrite b s
  | .registerWrite addr b => Sys2Proof.Machine.execRegisterWrite addr b s
  | .lockLineLevel asserted => Sys2Proof.Machine.execLockLineLevel asserted s
  | .rstAssert => Sys2Proof.Machine.execRstAssert s
  | .rstRelease => Sys2Proof.Machine.execRstRelease s
  | .powerOn => Sys2Proof.Machine.execPowerOn s
  | .powerLoss => Sys2Proof.Machine.execPowerLoss s
  | .startupEnd => Sys2Proof.Machine.execStartupEnd s

end Sys2Proof.Machine
end

