-- ==== Sys2Proof/Machine/Port.lean ====
section
/-! DEFINITION. The Management Port: transactions on CS#, SCK, SDI and SDO, bit by bit (section 10.1, R156, R189). The
table has no row for what happens at these lines; a step on an empty queue takes the next of it (assumption 22). -/

namespace Sys2Proof.Machine

/-! ## Bits and bytes -/

/-- The byte that eight received bits spell, most significant first (section 10.1). -/
def byteOfBits (bits : List Bool) : Byte := bits.foldl (fun b x => (b <<< 1) ||| (BitVec.ofBool x).setWidth 8) 0

/-- The bits of a byte, most significant first (section 10.1). -/
def bitsOfByte (b : Byte) : List Bool :=
  [b.getLsbD 7, b.getLsbD 6, b.getLsbD 5, b.getLsbD 4, b.getLsbD 3, b.getLsbD 2, b.getLsbD 1, b.getLsbD 0]

/-! ## What is received -/

/-- The port after the instruction byte: 5Ah READ, A5h WRITE, and any other makes it ignore the rest (Table 10-1,
R189). -/
def afterInstruction (b : Byte) : Port :=
  if b = 0x5A then .address true [] else if b = 0xA5 then .address false [] else .ignoring

/-- The port after the address byte; a READ captures the Result Block as it stands (R156, R189). -/
def afterAddress (read : Bool) (b : Byte) (s : State) : Port :=
  if read then .reading { addr := b, result := s.resultBlock, queueLow := none, shift := [], sdo := none }
  else .writing b []

/-- A data byte of a WRITE whose eighth bit has been received: written to its location; the next byte concerns the next
address, FFh being followed by 00h (R189, R190). -/
def takeData (addr b : Byte) (s : State) : State := { writeWindow addr b s with port := .writing (addr + 1) [] }

/-- One more received bit: the whole byte is taken at its eighth bit, and until then nothing is (R189). -/
def receive (bits : List Bool) (sdi : Bool) (partialByte : List Bool → Port) (whole : Byte → State → State) (s : State) :
    State :=
  if bits.length < 7 then { s with port := partialByte (bits ++ [sdi]) } else whole (byteOfBits (bits ++ [sdi])) s

/-- SCK rises: SDI is sampled; in the data phase of a READ it is not looked at (section 10.1, R189). -/
def riseSck (sdi : Bool) (s : State) : State :=
  match s.port with
  | .instruction bits => receive bits sdi .instruction (fun b s => { s with port := afterInstruction b }) s
  | .address read bits => receive bits sdi (.address read) (fun b s => { s with port := afterAddress read b s }) s
  | .writing addr bits => receive bits sdi (.writing addr) (takeData addr) s
  | .deselected | .ignoring | .reading _ => s

/-! ## What is driven -/

/-- The byte a READ drives next: of the Result Block the byte captured with the address, of the Attention Queue length
the low byte captured with the high one, of every other location the one it holds (R156, R189, R191). -/
def Reading.shown (r : Reading) (s : State) : Byte :=
  if 0x80 ≤ r.addr ∧ r.addr ≤ 0xDF then byteAt r.result (r.addr.toNat - 0x80)
  else if r.addr = 0x04 then r.queueLow.getD (windowByte 0x04 s)
  else windowByte r.addr s

/-- SCK falls in the data phase of a READ: the next bit of the byte in progress is driven, or the first bit of the next
byte, which is read then; with the high byte of the Attention Queue length its low byte is captured (R189), anew each
time the transaction comes to 03h and never with a low byte that comes first (assumption 36). -/
def Reading.drive (r : Reading) (s : State) : Reading :=
  match r.shift with
  | b :: rest => { r with shift := rest, sdo := some b }
  | [] =>
    { r with
      addr := r.addr + 1
      queueLow := if r.addr = 0x03 then some (windowByte 0x04 s) else none
      shift := (bitsOfByte (r.shown s)).tail
      sdo := (bitsOfByte (r.shown s)).head? }

/-- SCK falls: SDO changes in the data phase of a READ alone (R189). -/
def fallSck (s : State) : State :=
  match s.port with
  | .reading r => { s with port := .reading (r.drive s) }
  | .deselected | .ignoring | .instruction _ | .address _ _ | .writing _ _ => s

/-- What SDO drives, none at high impedance (R189, R196). -/
def sdo (s : State) : Option Bool :=
  match s.port with
  | .reading r => r.sdo
  | .deselected | .ignoring | .instruction _ | .address _ _ | .writing _ _ => none

/-! ## CS# -/

/-- CS# falls: a transaction begins; one begun before start-up has ended is ignored to its end (R189, R196). -/
def fallCs (s : State) : State :=
  match s.port with
  | .deselected => { s with port := if s.power = .running then .instruction [] else .ignoring }
  | .ignoring | .instruction _ | .address _ _ | .writing _ _ | .reading _ => s

/-- What happens at the port's lines. CS# rising ends the transaction, a partial byte being discarded (R189). -/
def serialEvent (e : SerialEvent) (s : State) : State :=
  match e with
  | .csFall => fallCs s
  | .csRise => { s with port := .deselected }
  | .sckRise sdi => whenRunning (riseSck sdi) s
  | .sckFall => whenRunning fallSck s

end Sys2Proof.Machine
end

