-- ==== Sys2Proof/Machine/Step.lean ====
section
/-! DEFINITION. One step of the part: the command at the front of the queue is taken, or what comes next on the serial
line, or time passes. -/

namespace Sys2Proof.Machine

/-- With no command waiting: the next event of the serial line is taken (assumption 22); with none there, `tick`
(assumption 7). -/
def idle (s : State) : State :=
  match s.serial with
  | e :: rest => serialEvent e { s with serial := rest }
  | [] => tick s

/-- Take the command at the front of the queue and execute it on the rest; with no command waiting, `idle`. -/
def step (s : State) : Host.Outcome State Fault Refusal :=
  match s.pending with
  | i :: rest => exec i { s with pending := rest }
  | [] => .next (idle s)

/-- The state with the command a table word spells at the front of its queue; the state itself where the word spells
none. No row of the table has bits, so no word spells a command (assumption 1). -/
def State.withFetchWord (s : State) (nbits w : Nat) : State :=
  match decodeTableWord nbits w with
  | some i => { s with pending := i :: s.pending }
  | none => s

end Sys2Proof.Machine
end

