-- ==== Sys2Proof/Safety.lean ====
section
/-! DEFINITION. What every step is meant to keep: the agreements between the blocks that the manual's rules state, and
what a context keeps from one step to the next. -/

namespace Sys2Proof.Machine

/-! ## Attention Unit -/

/-- The Attention Queue holds each slot at most once and holds exactly the slots that have a Condition Record (R144). -/
def AttentionMatches (s : State) : Prop :=
  s.attention.Nodup ∧ ∀ k : SlotNo, k ∈ s.attention ↔ (s.cond k).isSome = true

/-- A Condition Record stands only on a slot in use that is not LOADING (R1, R137). -/
def RecordsOnUsedSlots (s : State) : Prop := ∀ k : SlotNo, (s.cond k).isSome = true → raisable s k = true

/-- The overlap count of a Condition Record is at most 15, and its class set holds its primary class (R136, R139). -/
def RecordsSound (s : State) : Prop :=
  ∀ (k : SlotNo) (r : CondRecord), s.cond k = some r →
    r.overlap ≤ 15 ∧ r.classes &&& condClassBit r.primary = condClassBit r.primary

/-! ## Return Queue, in-flight counts -/

/-- The Return Queue holds up to 8 entries (R114). -/
def QueueFits (s : State) : Prop := s.queue.length ≤ 8

/-- The entry is a LANE entry that names the recipe. -/
def Entry.namesRecipe (n : RecipeNo) : Entry → Bool
  | .lane e => e.job.recipe == n
  | .refused _ => false

/-- The number of LANE entries in the Return Queue naming a slot (R16). -/
def entriesNaming (s : State) (k : SlotNo) : Nat := s.queue.countP (Entry.names k)

/-- The number of LANE entries in the Return Queue naming a recipe (R66). -/
def entriesNamingRecipe (s : State) (n : RecipeNo) : Nat := s.queue.countP (Entry.namesRecipe n)

/-- In-flight counts equal the numbers of LANE entries; a FREE slot has none; a RETIRING slot has some (R1, R16, R66). -/
structure CountsMatch (s : State) : Prop where
  used : ∀ (k : SlotNo) (c : Context), s.slot k = some c → c.inFlight = entriesNaming s k
  free : ∀ k : SlotNo, s.slot k = none → entriesNaming s k = 0
  recipes : ∀ n : RecipeNo, (s.recipe n).inFlight = entriesNamingRecipe s n
  retiring : ∀ (k : SlotNo) (c : Context), s.slot k = some c → c.state = .retiring → 0 < c.inFlight

/-! ## Tag Directory -/

/-- The context state a place is named after (section 2.1). -/
def Place.state : Place → CtxState
  | .active => .active
  | .standby => .standby
  | .draining => .draining

/-- The Tag Directory's form: tags rising and in use, no empty entry (R27). -/
def DirectoryFormed (s : State) : Prop :=
  (s.dir.Pairwise fun a b => a.1 < b.1) ∧ ∀ p ∈ s.dir, p.1 ≠ 0 ∧ p.2 ≠ DirEntry.empty

/-- The Tag Directory against the Context Table: what is bound, where, and the pairs (R27 to R29). -/
structure DirectoryMatches (s : State) : Prop where
  /-- A bound slot carries the tag, in the state of its place or QUARANTINED. -/
  bound : ∀ (t : Tag) (k : SlotNo) (p : Place), (k, p) ∈ (s.entry t).bound →
    ∃ c, s.slot k = some c ∧ c.tag = t ∧ (c.state = p.state ∨ c.state = .quarantined)
  /-- A slot in STANDBY, ACTIVE or DRAINING is bound under its tag in the place of its state. -/
  listed : ∀ (k : SlotNo) (c : Context) (p : Place), s.slot k = some c → c.state = p.state →
    (k, p) ∈ (s.entry c.tag).bound
  /-- A tag has at most two bound slots. -/
  pair : ∀ t : Tag, (s.entry t).bound.length ≤ 2
  /-- A slot holds one place. -/
  onePlace : ∀ (t : Tag) (k : SlotNo) (p q : Place), (k, p) ∈ (s.entry t).bound → (k, q) ∈ (s.entry t).bound → p = q
  /-- The two slots of a pair carry different markers. -/
  markers : ∀ (t : Tag) (j k : SlotNo) (p q : Place), (j, p) ∈ (s.entry t).bound → (k, q) ∈ (s.entry t).bound →
    slotMarker s j = slotMarker s k → j = k

/-! ## Command Unit -/

/-- A LOADING slot is the slot of the unwrap in execution, with a tag in use, no key and no frame in flight, and the
reverse; a command in execution has its copy (R3, R157, R163). -/
structure UnitMatches (s : State) : Prop where
  loading : ∀ (k : SlotNo) (c : Context), s.slot k = some c → c.state = .loading →
    c.tag ≠ 0 ∧ c.key = none ∧ c.inFlight = 0 ∧ ∃ u, s.unit = .unwrapping u ∧ u.slot = k
  unwrapping : ∀ u : Unwrap, s.unit = .unwrapping u → s.slotIs u.slot .loading = true
  copied : s.unit ≠ .idle → s.copy.isSome = true

/-- The blocks agree with each other (R1, R16, R27 to R29, R66, R137, R144). -/
structure BlocksAgree (s : State) : Prop where
  attention : AttentionMatches s
  records : RecordsOnUsedSlots s
  counts : CountsMatch s
  formed : DirectoryFormed s
  directory : DirectoryMatches s
  unit : UnitMatches s

/-! ## Jobs, lanes and entries -/

/-- The LANE entry of the queue that a frame in a lane belongs to. -/
def HasEntry (s : State) (j : Job) (l : LaneId) (ready : Status → Prop) : Prop :=
  ∃ e : LaneEntry, .lane e ∈ s.queue ∧ e.job = j ∧ e.lane = l ∧ ready e.status

/-- The status is PENDING. -/
def Status.isPending (x : Status) : Prop := x = .pending

/-- The status is FINISHED. -/
def Status.isFinished (x : Status) : Prop := ∃ o n, x = .finished o n

/-- The number of the job of an entry, if it is a LANE entry. -/
def Entry.jobId : Entry → Option Nat
  | .lane e => some e.job.id
  | .refused _ => none

/-- Where the frames of the LANE entries stand: PENDING in STAGE or WORK, FINISHED in OUT, ENDED nowhere; OUT may also
hold the result in sending; the intake streams into a STAGE (R95, R96, R98, R106, R115, R129, Table 6-2). -/
structure FramesMatch (s : State) : Prop where
  /-- Each LANE entry has a job number of its own, below the next. -/
  numbered : (s.queue.filterMap Entry.jobId).Nodup ∧ ∀ i ∈ s.queue.filterMap Entry.jobId, i < s.nextJob
  stage : ∀ (l : LaneId) (f : StageFrame), (s.lane l).stage = some f → HasEntry s f.job l Status.isPending
  work : ∀ (l : LaneId) (f : WorkFrame), (s.lane l).work = some f → HasEntry s f.job l Status.isPending
  apart : ∀ (l : LaneId) (f : StageFrame) (g : WorkFrame), (s.lane l).stage = some f → (s.lane l).work = some g →
    f.job.id ≠ g.job.id
  out : ∀ (l : LaneId) (f : OutFrame), (s.lane l).out = some f →
    HasEntry s f.job l Status.isFinished ∨ ∃ x, s.sending = some x ∧ x.lane = some l
  /-- A PENDING entry's frame stands in STAGE or WORK of its lane. -/
  pending : ∀ e : LaneEntry, .lane e ∈ s.queue → e.status.isPending →
    (∃ f, (s.lane e.lane).stage = some f ∧ f.job = e.job) ∨ ∃ f, (s.lane e.lane).work = some f ∧ f.job = e.job
  /-- A FINISHED entry's frame stands in OUT of its lane. -/
  finished : ∀ e : LaneEntry, .lane e ∈ s.queue → e.status.isFinished →
    ∃ f, (s.lane e.lane).out = some f ∧ f.job = e.job
  /-- A result with output bytes is sent from OUT, and OUT then belongs to no entry. -/
  sent : ∀ (x : Sending) (l : LaneId), s.sending = some x → x.lane = some l →
    ∃ f, (s.lane l).out = some f ∧ f.job.id ∉ s.queue.filterMap Entry.jobId ∧ f.job.id < s.nextJob
  /-- The intake streams a frame that is arriving in STAGE, with the bytes received so far. -/
  streaming : ∀ (j : Job) (l : LaneId) (n : Nat), s.intake = .streaming j l n →
    ∃ f, (s.lane l).stage = some f ∧ f.job = j ∧ f.arrived = false ∧ f.bytes.length = n
  /-- A frame in STAGE that has not arrived is the one being streamed. -/
  arriving : ∀ (l : LaneId) (f : StageFrame), (s.lane l).stage = some f → f.arrived = false →
    ∃ n, s.intake = .streaming f.job l n
  /-- An OFFLINE lane holds nothing in STAGE or WORK. -/
  offline : ∀ l : LaneId, (s.lane l).state = .offline → (s.lane l).stage = none ∧ (s.lane l).work = none

/-! ## Fields in their ranges -/

/-- A Context Record's fields lie in their ranges (Table 1-1, R7, R10), and the key is held in the states of
Table 1-2 alone; the drain timer runs in DRAINING alone (R19). -/
structure Context.Sound (c : Context) : Prop where
  tagUsed : c.tag ≠ 0
  recipesUsed : c.settings.recipes ≠ 0
  ceilingLow : 1 ≤ c.settings.ceiling.toNat
  ceilingHigh : c.settings.ceiling.toNat ≤ 2 ^ 48 - 2
  nextLow : 1 ≤ c.nextSeq.toNat
  nextHigh : c.nextSeq.toNat ≤ c.settings.ceiling.toNat + 1
  lifeUsed : 1 ≤ c.lifeInstalled.toNat
  lifeHigh : c.lifeLeft ≤ c.lifeInstalled
  markHigh : c.settings.lowMark ≤ c.lifeInstalled
  keyHeld : c.key.isSome = c.state.live
  timerDraining : c.timerRuns = true → c.state = .draining

/-- Every Context Record is sound. -/
def ContextsSound (s : State) : Prop := ∀ (k : SlotNo) (c : Context), s.slot k = some c → c.Sound

/-- HEADER is 10 bytes and TAG the recipe's tag length (R52). -/
def RecipeDef.Formed (d : RecipeDef) : Prop :=
  ∀ st ∈ d.steps, (st.kind = .header → st.len = .fixed 10) ∧ (st.kind = .tag → st.len = .fixed (tagLenNat d.tagLen))

/-- A recipe that is DEFINED passes the validation of R59 (R51, R52). -/
def RecipesSound (s : State) : Prop :=
  ∀ (n : RecipeNo) (d : RecipeDef), (s.recipe n).defn = some d →
    d.sound = true ∧ d.Formed ∧ 16 ≤ d.maxInput ∧ d.maxInput ≤ 2048

/-- A lock range in use has its tags in range and in order (Table 9-4). -/
def LocksSound (s : State) : Prop :=
  ∀ (n : RangeNo) (r : LockRange), s.lockRange n = some r → r.low ≠ 0 ∧ r.low ≤ r.high

/-- An anchor holds a key when PROGRAMMED and none when BLANK or REVOKED; an open programming write stands on a BLANK
anchor and an open revoke write on a PROGRAMMED one (R176, R179, R181). -/
def Anchor.Sound (x : Anchor) : Prop :=
  match x.state, x.openWrite with
  | .blank, w => x.key = none ∧ w ≠ some .revoking
  | .programmed, w => x.key.isSome = true ∧ w ≠ some .programming
  | .revoked, w => x.key = none ∧ w = none
  | .defective, w => w = none

/-- The anchors are sound, and while the part runs an anchor's write is open exactly while the command that opened it is
in execution (R157, R182). -/
structure AnchorsSound (s : State) : Prop where
  each : ∀ a : AnchorNo, (s.anchor a).Sound
  programming : s.power = .running → ∀ a : AnchorNo,
    ((s.anchor a).openWrite = some .programming ↔ s.unit = .programming a)
  revoking : s.power = .running → ∀ a : AnchorNo, ((s.anchor a).openWrite = some .revoking ↔ s.unit = .revoking a)

/-- Until start-up has ended every block holds its hard-reset state, and no transaction is in progress (R189, R196). -/
def HeldInReset (s : State) : Prop :=
  s.power ≠ .running →
    s.port.abandoned = s.port ∧
    s = { State.reset with
          anchors := s.anchors
          lockLine := s.lockLine
          rstLine := s.rstLine
          power := s.power
          port := s.port
          serial := s.serial
          pending := s.pending }

/-- At most seven bits of a byte are received and not yet taken, or still to be driven, and the low byte of the Attention
Queue length stays captured until its own address (R189). -/
def Port.Sound : Port → Prop
  | .deselected | .ignoring => True
  | .instruction bits | .address _ bits | .writing _ bits => bits.length ≤ 7
  | .reading r => r.shift.length ≤ 7 ∧ (r.queueLow.isSome = true → r.addr = 0x04)

/-! ## Transactions, as the statements speak of them -/

/-- A byte on SCK and SDI, most significant bit first (section 10.1). -/
def bytePins (b : Byte) : List SerialEvent := (bitsOfByte b).flatMap fun x => [.sckRise x, .sckFall]

/-- The state after a list of events at the lines of the Management Port, with nothing else between them. -/
def State.lines (s : State) (es : List SerialEvent) : State := es.foldl (fun s e => serialEvent e s) s

/-- What the host samples on SDO at each rising edge of SCK (section 10.1). -/
def samples : List SerialEvent → State → List (Option Bool)
  | [], _ => []
  | .sckRise x :: es, s => sdo s :: samples es (serialEvent (.sckRise x) s)
  | e :: es, s => samples es (serialEvent e s)

/-- The bytes that `n` locations hold, from an address on, FFh being followed by 00h (R189). -/
def windowBytes (addr : Byte) (n : Nat) (s : State) : List Byte :=
  (List.range n).map fun i => windowByte (addr + BitVec.ofNat 8 i) s

/-! ## Commands, as the statements speak of them -/

/-- A Start is taken: the part runs and the Command Unit is IDLE (R154, R196). -/
structure CommandReady (s : State) : Prop where
  running : s.power = .running
  idle : s.unit = .idle

/-- A Start is taken and LOCK# is released (R159). -/
structure Unlocked (s : State) : Prop extends CommandReady s where
  released : s.lockLine = false

/-- The damage that a Start write meets at its record reads, its own operand (assumption 3). -/
def foundBy : Instr → List Damage
  | .succeed found | .activate found | .retire found | .modify found | .query found => found
  | _ => []

/-- The state with the copy a Start takes (R154). -/
def State.copied (s : State) (code : Byte) : State :=
  { s with copy := some { code := code, block := s.commandBlock, lockAsserted := s.lockLine }, commandDone := false }

/-- The state in which a command of the given code has been taken and has completed with a result: the copy, the Result
Block, COMMAND_DONE and IDLE, and nothing else (R154, R156, R195). That both are one step is the model's choice
(assumption 37). -/
def State.answered (s : State) (code : Byte) (r : ResultCode) (fields : List Byte) : State :=
  { s with
    copy := some { code := code, block := s.commandBlock, lockAsserted := s.lockLine }
    resultBlock := blockOf (resultByte r :: code :: fields)
    commandDone := true
    unit := .idle }

/-- The state in which the command in execution has completed with a result: the Result Block, COMMAND_DONE and IDLE,
and nothing else (R156, R195). -/
def State.completed (s : State) (code : Byte) (r : ResultCode) (fields : List Byte) : State :=
  { s with resultBlock := blockOf (resultByte r :: code :: fields), commandDone := true, unit := .idle }

/-- The slot a command names in byte 00 of the Command Block (Table 10-7 note). -/
def State.namedSlot (s : State) : SlotNo := slotAt s.commandBlock 0x00

/-- A slot holds a record that the record check passes (R22). -/
def Intact (s : State) (k : SlotNo) (c : Context) : Prop := s.slot k = some c ∧ failingGroup c = none

/-- The lowest-numbered FREE slot (R1). -/
structure LowestFree (s : State) (k : SlotNo) : Prop where
  free : s.slot k = none
  lowest : ∀ j < k, s.slot j ≠ none

/-- An anchor is usable, with the key it holds (R177). -/
def Usable (s : State) (a : AnchorNo) (key : AnchorKey) : Prop :=
  (s.anchor a).state = .programmed ∧ (s.anchor a).key = some key

/-- A tag's pair admits a marker in a requested place, ACTIVE or STANDBY (R30). -/
structure Admits (s : State) (t : Tag) (standby : Bool) (marker : Bool) : Prop where
  room : (s.entry t).bound.length < 2
  place : (if standby then (s.entry t).standby else (s.entry t).active) = none
  marker : ∀ b ∈ (s.entry t).bound, slotMarker s b.1 ≠ some marker

/-- The first failing test of a tag's pair for a marker in a requested place (R30). -/
def AdmissionFails (s : State) (t : Tag) (standby : Bool) (marker : Bool) (r : ResultCode) : Prop :=
  2 ≤ (s.entry t).bound.length ∧ r = .tagFull ∨
  (s.entry t).bound.length < 2 ∧ (if standby then (s.entry t).standby else (s.entry t).active) ≠ none ∧
    r = .roleTaken ∨
  (s.entry t).bound.length < 2 ∧ (if standby then (s.entry t).standby else (s.entry t).active) = none ∧
    (∃ b ∈ (s.entry t).bound, slotMarker s b.1 = some marker) ∧ r = .generationClash

/-! ## Frames, as the statements speak of them -/

/-- A word is taken as the second word of a Job Header (R74, R75). -/
structure HeaderTaken (s : State) (w0 : Word) (w : FrameWord) : Prop where
  running : s.power = .running
  held : s.intake = .jobWord w0
  accepts : accepting s = true
  second : w.first = false

/-- The state with a frame refused: a REFUSED entry at the tail, the frame's bytes to be dropped, and nothing else
(R83). -/
def State.refusing (s : State) (w : FrameWord) (h : JobHeader) (v : Verdict) (k : Option SlotNo) : State :=
  { s with
    queue := s.queue ++ [.refused { verdict := v, dir := h.dir, tag := h.tag, marker := h.marker, slot := k }]
    intake := if w.last then .awaitJob else .discarding }

/-- Check 4 finds a slot: for a protect the slot in place ACTIVE of the tag (R34), for an admit the one bound slot that
carries the marker (R35). -/
def Finds (s : State) (h : JobHeader) (k : SlotNo) : Prop :=
  match h.dir with
  | .toProtect => (s.entry h.tag).active = some k
  | .toAdmit =>
    (∃ p, (k, p) ∈ (s.entry h.tag).bound) ∧ slotMarker s k = some h.marker ∧
      ∀ b ∈ (s.entry h.tag).bound, slotMarker s b.1 = some h.marker → b.1 = k

/-- A Job Header is taken, checks 1 to 3 pass with the given recipe and layout, and check 4 finds a slot (R76 to
R79). -/
structure HeaderFinds (s : State) (w0 : Word) (w : FrameWord) (d : RecipeDef) (layout : List (StepKind × Nat))
    (k : SlotNo) : Prop extends HeaderTaken s w0 w where
  online : anyOnline s = true
  defined : (s.recipe (jobHeaderOf w0 w.data).recipe).defn = some d
  resolved : resolve d (jobHeaderOf w0 w.data).dir (jobHeaderOf w0 w.data).inLen = some layout
  finds : Finds s (jobHeaderOf w0 w.data) k

/-- Checks 5 to 7 pass under a slot: not QUARANTINED, not held by its record, direction and recipe allowed (R80,
R81). -/
structure Admissible (s : State) (h : JobHeader) (k : SlotNo) (c : Context) : Prop where
  sound : c.state ≠ .quarantined
  free : heldByRecord s k = false
  direction : directionAllowed c.settings.direction h.dir = true
  recipe : c.settings.recipes.getLsbD h.recipe.val = true

/-- The job a dispatch under a slot fixes (R84). -/
def dispatchedJob (s : State) (h : JobHeader) (d : RecipeDef) (layout : List (StepKind × Nat)) (k : SlotNo)
    (marker : Bool) (reserved : SeqNo) : Job :=
  { id := s.nextJob
    dir := h.dir
    tag := h.tag
    marker := marker
    slot := k
    recipe := h.recipe
    layout := layout
    tagLen := d.tagLen
    inLen := h.inLen
    outLen := outputLength h.dir h.inLen d.tagLen layout
    reserved := reserved }

/-- The part with a job sent to a lane: both in-flight counts up by one, the frame in STAGE, a PENDING LANE entry at
the tail, the intake STREAMING; a frame of 0 bytes ended FRAMING at once (R84 to R87). -/
def State.toLane (s : State) (w : FrameWord) (j : Job) (l : LaneId) : State :=
  let s := s.updateSlot j.slot fun c => { c with inFlight := c.inFlight + 1 }
  let s := s.setRecipe j.recipe { s.recipe j.recipe with inFlight := (s.recipe j.recipe).inFlight + 1 }
  let s := s.setLane l { s.lane l with stage := some { job := j, bytes := [], arrived := false } }
  let s := { s with
    queue := s.queue ++ [.lane { job := j, lane := l, seq := j.reserved, parsed := false, status := .pending }]
    intake := .streaming j l 0
    lastLane := l
    nextJob := s.nextJob + 1 }
  if w.last then { endJobs [j.id] .framing s with intake := .awaitJob } else s

/-- One more frame refused under a slot (R15). -/
def State.countingRefusal (s : State) (k : SlotNo) : State :=
  s.updateSlot k fun c => { c with framesRefused := c.framesRefused + 1 }

/-! ## Releases, as the statements speak of them -/

/-- Release may take the head entry as far as Frame Out goes: the part runs and no result is in sending (R116). -/
structure HeadFree (s : State) (e : Entry) (rest : List Entry) : Prop where
  running : s.power = .running
  idle : s.sending = none
  head : s.queue = e :: rest

/-- The head entry taken from the queue, after damage has come about (R117). -/
def State.dequeued (s : State) (ds : List Damage) : State := damage ds { s with queue := s.queue.tail }

/-- A LANE entry at the head, FINISHED, whose slot's record is in one of the four states of release and passes its check
(R120). -/
structure Releasable (s : State) (ds : List Damage) (e : LaneEntry) (o : LaneOutcome) (n : Nat) (c : Context) : Prop where
  head : ∃ rest, HeadFree s (.lane e) rest
  finished : e.status = .finished o n
  live : c.state.live = true
  intact : Intact (s.dequeued ds) e.job.slot c

/-- The end of the release of a LANE entry: the ending FINISHED for the verdicts that apply it, both in-flight counts
down by one, a RETIRING slot at 0 freed, and the sending begun; with no output bytes the lane's OUT is emptied of the
frame (R126 to R129). -/
def State.leaving (s : State) (e : LaneEntry) (v : Verdict) (n : Nat) : State :=
  let k := e.job.slot
  let s := if v.endsFinished then applyEnding .finished k s else s
  let s := s.updateSlot k fun c => { c with inFlight := c.inFlight - 1 }
  let s := s.setRecipe e.job.recipe { s.recipe e.job.recipe with inFlight := (s.recipe e.job.recipe).inFlight - 1 }
  let s := if (s.slot k).any fun c => c.state == .retiring && c.inFlight == 0 then freeSlot k s else s
  let s :=
    if n = 0 then
      s.setLane e.lane { s.lane e.lane with out := (s.lane e.lane).out.filter fun f => f.job.id != e.job.id }
    else s
  { s with
    sending := some
      { verdict := v
        marker := e.job.marker
        slot := some k
        tag := e.job.tag
        outLen := n
        seq := e.seq
        lane := if n = 0 then none else some e.lane
        wordsSent := 0 } }

/-! ## From one step to the next -/

/-- What a context keeps from one step to the next: what is fixed for its life (R3, R29), and what only rises or only
falls (R8, R10 to R13). -/
structure Context.Continues (c d : Context) : Prop where
  tag : d.tag = c.tag
  generation : d.generation = c.generation
  anchor : d.anchor = c.anchor
  keyWidth : d.keyWidth = c.keyWidth
  salt : d.salt = c.salt
  lifeInstalled : d.lifeInstalled = c.lifeInstalled
  watermark : c.watermark ≤ d.watermark
  nextSeq : c.nextSeq ≤ d.nextSeq
  lifeLeft : d.lifeLeft ≤ c.lifeLeft
  spent : c.spent = true → d.spent = true
  lowReported : c.lowReported = true → d.lowReported = true

/-- What an entry of the Return Queue keeps from one step to the next: a REFUSED entry all, a LANE entry its job and its
lane, and once ENDED its verdict (R83, R84, R115). -/
def Entry.Continues : Entry → Entry → Prop
  | .refused d, .refused e => e = d
  | .lane d, .lane e => e.job = d.job ∧ e.lane = d.lane ∧ ∀ v, d.status = .ended v → e.status = .ended v
  | _, _ => False

/-- The changes of context state of Table 1-3, a context in use staying in use: no change, binding, roll-over, retire,
quarantine. -/
def CtxState.mayBecome : CtxState → CtxState → Bool
  | .loading, .standby | .loading, .active => true
  | .standby, .active | .active, .draining => true
  | .standby, .retiring | .active, .retiring | .draining, .retiring => true
  | .standby, .quarantined | .active, .quarantined | .draining, .quarantined | .retiring, .quarantined => true
  | a, b => a == b

end Sys2Proof.Machine
end

