-- ==== Sys2Proof/Certificates/Slice0/Obligations.lean ====
section
/-! DEFINITION. The statements for the provers, from the manual's numbered rules. -/

open Sys2Proof Sys2Proof.Machine

/-! ## Steps, time and reset -/

/-- A step takes the command at the front of the queue and executes it on the rest. -/
def Obligations.StepTakesFrontCommand : Prop :=
  ∀ (c : Instr) (rest : List Instr) (s : State),
    step { s with pending := c :: rest } = exec c { s with pending := rest }

/-- With no command waiting, what comes next on the serial line is taken. With nothing there either, one millisecond
passes for every running drain timer when none stands at 0, and nothing else changes. That an idle step does so is the
model's choice (assumptions 7, 22); the countdown is R19's. -/
def Obligations.IdleStepCountsRunningTimersDown : Prop :=
  ∀ s : State, s.pending = [] →
    (∀ e rest, s.serial = e :: rest → step s = .next (serialEvent e { s with serial := rest })) ∧
    (s.serial = [] → s.power = .running →
      (∀ (k : SlotNo) (c : Context), s.slot k = some c → c.timing = true → c.timerLeft ≠ 0) →
      ∃ t, step s = .next t ∧ t = { s with slots := t.slots } ∧
        ∀ k : SlotNo, t.slot k =
          (s.slot k).map fun c => if c.timing then { c with timerLeft := c.timerLeft - 1 } else c)

/-- No command stops the part, and none touches the commands waiting behind it or the serial line (assumption 27: each
refusal and failure of the manual is an effect on the state). A transaction of the Management Port goes on through every
command, with the Result Block it captured, but is abandoned at RST# and at a loss or return of power. That the rows leave
it alone, its bits having no row, is the model's choice (assumption 22); that a change of power abandons it too, and that
the rest of an abandoned one is ignored, is read from the manual by the model (assumption 34). -/
def Obligations.NoCommandStopsThePart : Prop :=
  ∀ (c : Instr) (s : State), ∃ t, exec c s = .next t ∧ t.pending = s.pending ∧ t.serial = s.serial ∧
    (t.port = s.port ∨ c ∈ [.rstAssert, .powerLoss, .powerOn] ∧ t.port = s.port.abandoned)

/-- The part after power is applied, start-up ends and RST# is released: every block in its power-on state, whatever the
anchors hold. -/
def Obligations.PowerOnAndStartupGiveResetState : Prop :=
  ∀ s : State, s.power = .off → s.rstLine = false → ∃ t u,
    exec .powerOn s = .next t ∧ t.power = .startUp ∧ exec .startupEnd t = .next u ∧ u.power = .running ∧
    (∀ k : SlotNo, u.slot k = none ∧ u.cond k = none) ∧ (∀ x : Tag, u.entry x = DirEntry.empty) ∧
    (∀ n : RecipeNo, u.recipe n = ⟨none, 0⟩) ∧ u.intake = .awaitJob ∧ u.lastLane = .laneB ∧
    (∀ l : LaneId, u.lane l = ⟨.online, none, none, none⟩) ∧ u.queue = [] ∧ u.sending = none ∧ u.attention = [] ∧
    u.unit = .idle ∧ u.copy = none ∧ (∀ i < 96, byteAt u.commandBlock i = 0 ∧ byteAt u.resultBlock i = 0) ∧
    (∀ n : RangeNo, u.lockRange n = none) ∧ attnDriven u = false ∧ frameInReady u = true ∧ frameOutWord u = none ∧
    windowByte 0x00 u = 0x4C ∧ windowByte 0x01 u = 0x01 ∧ windowByte 0x05 u = 0 ∧ windowByte 0x06 u = 0 ∧
    (u.port = .deselected ∨ u.port = .ignoring)

/-- The part right after reset meets every agreement and range of Safety.lean. -/
def Obligations.AgreementsHoldAtReset : Prop :=
  AttentionMatches State.reset ∧ BlocksAgree State.reset ∧ FramesMatch State.reset ∧ ContextsSound State.reset ∧
    RecipesSound State.reset ∧ LocksSound State.reset ∧ AnchorsSound State.reset ∧ RecordsSound State.reset ∧
    QueueFits State.reset ∧ HeldInReset State.reset ∧ State.reset.port.Sound

/-! ## Frame In and the dispatch -/

/-- In AWAIT_JOB a word is taken only while the acceptance condition holds: with the first marker and no last marker it
is held, any other word is discarded. -/
def Obligations.AwaitJobTakesFirstWord : Prop :=
  ∀ (w : FrameWord) (s : State), s.power = .running → s.intake = .awaitJob →
    exec (.jobFirstWord w) s = .next
      (if accepting s then { s with intake := if w.first && !w.last then .jobWord w.data else .awaitJob } else s)

/-- The acceptance condition is a free entry of the Return Queue and, beside it, an ONLINE lane with an empty STAGE or no
ONLINE lane at all. Frame In is ready in AWAIT_JOB and JOB_WORD exactly while it holds, in the two other states always.
While it does not hold, a word in JOB_WORD is not taken, whichever row spells it; while it does, a word with the first
marker replaces the held word or, with the last marker too, ends it. -/
def Obligations.JobWordReplacedByFirstMarker : Prop :=
  ∀ s : State, s.power = .running →
    (accepting s = true ↔ s.queue.length < 8 ∧
      ((∃ l : LaneId, (s.lane l).state = .online ∧ (s.lane l).stage = none) ∨
        ∀ l : LaneId, (s.lane l).state = .offline)) ∧
    (frameInReady s = true ↔ accepting s = true ∨ s.intake = .discarding ∨ ∃ j l n, s.intake = .streaming j l n) ∧
    ∀ (w : FrameWord) (w0 : Word), s.intake = .jobWord w0 →
      (accepting s = false → exec (.jobFirstWord w) s = .next s ∧
        ∀ ds dr : List Damage, exec (.jobHeader w ds dr) s = .next (damage ds s)) ∧
      (accepting s = true → w.first = true →
        exec (.jobFirstWord w) s = .next { s with intake := if w.last then .awaitJob else .jobWord w.data })

/-- Checks 1 to 4 refuse a frame and name no slot: NO_LANE, RECIPE_EMPTY, LENGTH, NO_CONTEXT, NO_ACTIVE, in that order
of checks. Nothing changes but the REFUSED entry and the intake. -/
def Obligations.RefusedWithoutSlot : Prop :=
  ∀ (s : State) (w0 : Word) (w : FrameWord) (ds dr : List Damage) (v : Verdict), HeaderTaken s w0 w →
    (let h := jobHeaderOf w0 w.data
     anyOnline s = false ∧ v = .noLane ∨
     anyOnline s = true ∧ (s.recipe h.recipe).defn = none ∧ v = .recipeEmpty ∨
     ∃ d, anyOnline s = true ∧ (s.recipe h.recipe).defn = some d ∧
       (resolve d h.dir h.inLen = none ∧ v = .length ∨
        ∃ layout, resolve d h.dir h.inLen = some layout ∧
          (h.dir = .toProtect ∧ s.entry h.tag = DirEntry.empty ∧ v = .noContext ∨
           h.dir = .toProtect ∧ s.entry h.tag ≠ DirEntry.empty ∧ (s.entry h.tag).active = none ∧ v = .noActive ∨
           h.dir = .toAdmit ∧ (∀ b ∈ (s.entry h.tag).bound, slotMarker s b.1 ≠ some h.marker) ∧ v = .noContext))) →
    exec (.jobHeader w ds dr) s = .next ((damage ds s).refusing w (jobHeaderOf w0 w.data) v none)

/-- Checks 5 to 7 under a slot whose record passes its check refuse a frame HELD, DIRECTION or RECIPE_DENIED, naming the
slot and counting one frame refused; nothing else changes. -/
def Obligations.RefusedUnderSlot : Prop :=
  ∀ (s : State) (w0 : Word) (w : FrameWord) (ds dr : List Damage) (d : RecipeDef) (layout : List (StepKind × Nat))
    (k : SlotNo) (c : Context) (v : Verdict),
    HeaderFinds s w0 w d layout k → Intact (damage ds s) k c →
    (let h := jobHeaderOf w0 w.data
     (c.state = .quarantined ∨ heldByRecord s k = true) ∧ v = .held ∨
     c.state ≠ .quarantined ∧ heldByRecord s k = false ∧
       (directionAllowed c.settings.direction h.dir = false ∧ v = .direction ∨
        directionAllowed c.settings.direction h.dir = true ∧ c.settings.recipes.getLsbD h.recipe.val = false ∧
          v = .recipeDenied)) →
    exec (.jobHeader w ds dr) s =
      .next (((damage ds s).countingRefusal k).refusing w (jobHeaderOf w0 w.data) v (some k))

/-- A record check that fails at the lookup's read quarantines the slot: key cleared, timer stopped, its unreleased LANE
entries ENDED ABORTED, RECORD_CHECK raised as hold-class with ending CUT or worse, the slot kept in its place; and the
frame is refused HELD. That damage leaves the values of the fields as they were is the model's choice (assumption 3). -/
def Obligations.LookupCheckFailureQuarantines : Prop :=
  ∀ (s : State) (w0 : Word) (w : FrameWord) (ds dr : List Damage) (d : RecipeDef) (layout : List (StepKind × Nat))
    (k : SlotNo) (c : Context) (g : CheckGroup),
    HeaderFinds s w0 w d layout k → (damage ds s).slot k = some c → failingGroup c = some g →
    ∃ t, exec (.jobHeader w ds dr) s = .next t ∧
      t.slot k = some { c with
        state := .quarantined, key := none, timerRuns := false, framesRefused := c.framesRefused + 1 } ∧
      (∀ j : SlotNo, j ≠ k → t.slot j = (damage ds s).slot j ∧ t.cond j = s.cond j) ∧
      (∀ e : LaneEntry, .lane e ∈ s.queue → e.job.slot = k → (∀ v, e.status ≠ .ended v) →
        .lane { e with status := .ended .aborted } ∈ t.queue) ∧
      (∃ r, t.cond k = some r ∧ r.holding = true ∧ r.classes.getLsbD 0 = true ∧ severity .cut ≤ severity r.ending ∧
        (s.cond k = none → r.phase = some .dispatch ∧ r.group = some g ∧ r.seq = none)) ∧
      t.queue.getLast? = some (.refused
        { verdict := .held, dir := (jobHeaderOf w0 w.data).dir, tag := (jobHeaderOf w0 w.data).tag
          marker := (jobHeaderOf w0 w.data).marker, slot := some k }) ∧
      t.dir = s.dir ∧ t.recipes = s.recipes ∧ t.anchors = s.anchors ∧ t.locks = s.locks ∧ t.sending = s.sending

/-- A protect under a context found spent, with no life roll-over to take it, is refused EXHAUSTED: the spent flag is
set, and LIFE_EXHAUSTED is raised at the test that first sets it. No number is reserved and no life charged. The same
follows when the record of the STANDBY of a life roll-over fails its check, the STANDBY quarantined in its place; when
both records fail, both are quarantined and the frame is refused HELD, naming the spent slot, with no LIFE_EXHAUSTED. That
the STANDBY is read first is the model's (assumption 18). -/
def Obligations.SpentProtectRefusedExhausted : Prop :=
  ∀ (s : State) (w0 : Word) (w : FrameWord) (ds dr : List Damage) (d : RecipeDef) (layout : List (StepKind × Nat))
    (k : SlotNo) (c : Context),
    HeaderFinds s w0 w d layout k → (jobHeaderOf w0 w.data).dir = .toProtect → Intact (damage ds s) k c →
    Admissible s (jobHeaderOf w0 w.data) k c →
    (c.spent = true ∨ c.settings.ceiling < c.nextSeq ∨ c.lifeLeft.toNat < metered layout) →
    (let spent := (damage ds s).updateSlot k fun c => { c with spent := true }
     let refused := fun (u : State) =>
       let u := if c.spent then u else raiseOn { cls := .lifeExhausted, phase := some .dispatch } k u
       (u.countingRefusal k).refusing w (jobHeaderOf w0 w.data) .exhausted (some k)
     ((c.settings.flags.lifeRoll = false ∨
         ∀ p : SlotNo, (s.entry c.tag).standby = some p → (damage ds s).slotIs p .standby = false) →
       exec (.jobHeader w ds dr) s = .next (refused spent)) ∧
     ∀ (p : SlotNo) (q : Context) (g : CheckGroup), c.settings.flags.lifeRoll = true → p ≠ k →
       s.entry c.tag = ⟨some k, some p, none⟩ → (damage dr (damage ds s)).slot p = some q → q.tag = c.tag →
       q.state = .standby → failingGroup q = some g →
       (Intact (damage dr (damage ds s)) k c →
         exec (.jobHeader w ds dr) s = .next (refused (quarantine .dispatch none g p (damage dr spent)))) ∧
       ∀ (x : Context) (g' : CheckGroup), (damage dr (damage ds s)).slot k = some x → failingGroup x = some g' →
         exec (.jobHeader w ds dr) s = .next
           (((quarantine .dispatch none g' k (quarantine .dispatch none g p (damage dr spent))).countingRefusal
             k).refusing w (jobHeaderOf w0 w.data) .held (some k)))

/-- A protect that passes its checks takes the slot's next sequence and is charged its metered bytes; LIFE_LOW is raised
once, at the charge that brings the remainder to the mark; and the frame goes to the lane the arbiter chooses. -/
def Obligations.ProtectDispatchedToLane : Prop :=
  ∀ (s : State) (w0 : Word) (w : FrameWord) (ds dr : List Damage) (d : RecipeDef) (layout : List (StepKind × Nat))
    (k : SlotNo) (c : Context),
    HeaderFinds s w0 w d layout k → (jobHeaderOf w0 w.data).dir = .toProtect → Intact (damage ds s) k c →
    Admissible s (jobHeaderOf w0 w.data) k c →
    c.spent = false → c.nextSeq ≤ c.settings.ceiling → metered layout ≤ c.lifeLeft.toNat →
    exec (.jobHeader w ds dr) s = .next
      (let rest := c.lifeLeft - BitVec.ofNat 40 (metered layout)
       let u := (damage ds s).updateSlot k fun c => { c with nextSeq := c.nextSeq + 1, lifeLeft := rest }
       let u :=
         if c.settings.lowMark ≠ 0 ∧ rest ≤ c.settings.lowMark ∧ c.lowReported = false then
           raiseOn { cls := .lifeLow, phase := some .dispatch, seq := some c.nextSeq } k
             (u.updateSlot k fun c => { c with lowReported := true })
         else u
       u.toLane w (dispatchedJob s (jobHeaderOf w0 w.data) d layout k c.marker c.nextSeq) (chooseLane s))

/-- An admit that passes its checks reserves nothing and is charged nothing: both in-flight counts rise by one and the
frame goes to the lane the arbiter chooses. -/
def Obligations.AdmitDispatchedToLane : Prop :=
  ∀ (s : State) (w0 : Word) (w : FrameWord) (ds dr : List Damage) (d : RecipeDef) (layout : List (StepKind × Nat))
    (k : SlotNo) (c : Context),
    HeaderFinds s w0 w d layout k → (jobHeaderOf w0 w.data).dir = .toAdmit → Intact (damage ds s) k c →
    Admissible s (jobHeaderOf w0 w.data) k c →
    exec (.jobHeader w ds dr) s = .next
      ((damage ds s).toLane w
        (dispatchedJob s (jobHeaderOf w0 w.data) d layout k (jobHeaderOf w0 w.data).marker 0) (chooseLane s))

/-- A life roll-over: the spent ACTIVE with LIFE_ROLL set becomes DRAINING with progress 0 and its timer loaded, or, when
its record fails its check at the roll-over's read, is quarantined into place DRAINING; its STANDBY becomes ACTIVE and
raises ROLLOVER; no LIFE_EXHAUSTED is raised on the former ACTIVE. The frame is dispatched under the new ACTIVE with that
slot's next sequence, or refused under it with the verdict of the first of checks 5 to 8 that fails there. That damage
leaves the values of the fields as they were is the model's choice (assumption 3). -/
def Obligations.LifeRollOverTakesTheFrame : Prop :=
  ∀ (s : State) (w0 : Word) (w : FrameWord) (ds dr : List Damage) (d : RecipeDef) (layout : List (StepKind × Nat))
    (k p : SlotNo) (c x q : Context),
    HeaderFinds s w0 w d layout k → (jobHeaderOf w0 w.data).dir = .toProtect → DirectoryFormed s →
    s.entry c.tag = ⟨some k, some p, none⟩ → c.tag = (jobHeaderOf w0 w.data).tag → q.tag = c.tag → k ≠ p →
    Intact (damage ds s) k c → (damage dr (damage ds s)).slot k = some x → Intact (damage dr (damage ds s)) p q →
    c.state = .active → q.state = .standby → Admissible s (jobHeaderOf w0 w.data) k c →
    (c.spent = true ∨ c.settings.ceiling < c.nextSeq ∨ c.lifeLeft.toNat < metered layout) →
    c.settings.flags.lifeRoll = true →
    (let h := jobHeaderOf w0 w.data
     let spent := q.spent = true ∨ q.settings.ceiling < q.nextSeq ∨ q.lifeLeft.toNat < metered layout
     ∃ t, exec (.jobHeader w ds dr) s = .next t ∧
       t.entry c.tag = ⟨some p, none, some k⟩ ∧ t.slotIs p .active = true ∧
       (failingGroup x = none →
         t.slot k = some { c with
           spent := true, state := .draining, drainProgress := 0, timerLeft := c.settings.drainTime
           timerRuns := c.settings.drainTime != 0 } ∧
         t.cond k = s.cond k) ∧
       (∀ g, failingGroup x = some g →
         t.slot k = some { x with spent := true, state := .quarantined, key := none, timerRuns := false } ∧
         ∃ r, t.cond k = some r ∧ r.holding = true ∧ r.classes.getLsbD 0 = true ∧ severity .cut ≤ severity r.ending ∧
           (s.cond k = none →
             r.primary = .recordCheck ∧ r.classes = 1 ∧ r.phase = some .dispatch ∧ r.group = some g)) ∧
       (∃ r, t.cond p = some r ∧ r.classes.getLsbD 4 = true ∧ (s.cond p = none → r.reason = some .life)) ∧
       (Admissible s h p q → ¬spent →
         (t.slot p).map (fun y => (y.nextSeq, y.inFlight)) = some (q.nextSeq + 1, q.inFlight + 1) ∧
         ∃ e, .lane e ∈ t.queue ∧ e.job.slot = p ∧ e.seq = q.nextSeq ∧ e.job.marker = q.marker ∧
           e.job.id = s.nextJob) ∧
       ∀ v : Verdict,
         (heldByRecord s p = true ∧ v = .held ∨
          heldByRecord s p = false ∧
            (directionAllowed q.settings.direction h.dir = false ∧ v = .direction ∨
             directionAllowed q.settings.direction h.dir = true ∧ q.settings.recipes.getLsbD h.recipe.val = false ∧
               v = .recipeDenied) ∨
          Admissible s h p q ∧ spent ∧ v = .exhausted) →
         t.queue.getLast? = some (.refused { verdict := v, dir := h.dir, tag := h.tag, marker := h.marker, slot := some p }) ∧
         t.slot p = some { q with
           state := .active, spent := q.spent || decide (v = .exhausted), framesRefused := q.framesRefused + 1 })

/-- The Lane Arbiter chooses among ONLINE lanes with an empty STAGE: the one, or of two the lane not chosen last. -/
def Obligations.LaneArbiterAlternates : Prop :=
  ∀ s : State,
    (s.laneA.qualifies = true → s.laneB.qualifies = true → chooseLane s ≠ s.lastLane) ∧
    (s.laneA.qualifies = true → s.laneB.qualifies = false → chooseLane s = .laneA) ∧
    (s.laneA.qualifies = false → s.laneB.qualifies = true → chooseLane s = .laneB) ∧
    ∀ l : LaneId, (s.lane l).qualifies = true ↔ (s.lane l).state = .online ∧ (s.lane l).stage = none

/-- A word of the frame being streamed that does not bring the count past the input length goes into STAGE: the count
grows by its bytes; with the last marker at the input length the frame has arrived and the intake is in AWAIT_JOB. -/
def Obligations.StreamedWordWritten : Prop :=
  ∀ (w : FrameWord) (s : State) (j : Job) (l : LaneId) (n : Nat) (f : StageFrame),
    s.power = .running → s.intake = .streaming j l n → (s.lane l).stage = some f → w.first = false →
    (w.last = false ∧ n + 4 ≤ j.inLen ∨ w.last = true ∧ n + frameByteCount w = j.inLen) →
    exec (.frameWord w) s = .next
      { s.setLane l { s.lane l with stage := some { f with bytes := f.bytes ++ frameBytes w, arrived := w.last } } with
        intake := if w.last then .awaitJob else .streaming j l (n + 4) }

/-- A frame too short, too long or broken off by a first marker is ended FRAMING: its entries' status, its STAGE and the
intake; a first marker begins a new transfer. In DISCARDING words are dropped up to the last marker. -/
def Obligations.BrokenFramesDropped : Prop :=
  (∀ (w : FrameWord) (s : State) (j : Job) (l : LaneId) (n : Nat),
    s.power = .running → s.intake = .streaming j l n →
    (w.first = true ∨ j.inLen < n + frameByteCount w ∨ w.last = true ∧ n + frameByteCount w < j.inLen) →
    exec (.frameWord w) s = .next
      { endJobs [j.id] .framing s with
        intake :=
          if w.first && !w.last then .jobWord w.data
          else if w.last then .awaitJob
          else .discarding }) ∧
  ∀ (w : FrameWord) (s : State), s.power = .running → s.intake = .discarding →
    exec (.discardWord w) s = .next
      { s with
        intake :=
          if w.first && !w.last then .jobWord w.data
          else if w.last then .awaitJob
          else .discarding }

/-! ## The cipher lanes -/

/-- An arrived frame moves from STAGE to an empty WORK and begins at KEY_FETCH, which copies key, key width, salt,
generation and marker of the job's slot, in whatever state it stands and whatever its check values; a DONE frame moves
from WORK to an empty OUT, and its PENDING entry becomes FINISHED with the lane's outcome and output length, 0 for
MALFORMED. -/
def Obligations.FramesMoveForward : Prop :=
  (∀ (l : LaneId) (s : State) (f : WorkFrame) (c : Context) (key : ContextKey), s.power = .running →
    (s.lane l).work = some f → f.phase = .keyFetch → s.slot f.job.slot = some c → c.key = some key →
    exec (.keyFetch l) s = .next (s.setLane l { s.lane l with
      work := some { f with
        fetched := some
          { key := key, width := c.keyWidth, salt := c.salt, generation := c.generation, marker := c.marker }
        phase := .header } })) ∧
  (∀ (l : LaneId) (s : State) (f : StageFrame), s.power = .running → (s.lane l).stage = some f → f.arrived = true →
    (s.lane l).work = none →
    exec (.stageToWork l) s = .next (s.setLane l { s.lane l with
      stage := none
      work := some
        { job := f.job, input := f.bytes, phase := .keyFetch, fetched := none, header := [], nonce := none
          authClear := [], cipherBytes := [], output := [] } })) ∧
  ∀ (l : LaneId) (s : State) (f : WorkFrame) (o : LaneOutcome), s.power = .running → (s.lane l).work = some f →
    f.phase = .done o → (s.lane l).out = none →
    exec (.workToOut l) s = .next
      { s.setLane l { s.lane l with work := none, out := some { job := f.job, bytes := f.output } } with
        queue := s.queue.map fun e =>
          match e with
          | .lane e =>
            if e.job.id = f.job.id ∧ e.status = .pending then
              .lane { e with status := .finished o (if o = .malformed then 0 else f.job.outLen) }
            else .lane e
          | .refused e => .refused e }

/-- HEADER of a protect builds the 10-byte header of its tag, the slot's marker, the tag-length code and the reserved
number, and the nonce: salt, generation, a zero byte and the number. HEADER of an admit reads the 10 bytes at the HEADER
step's place. When they are the header of the job's tag and marker, the recipe's tag length and a sequence that is not 0,
the nonce follows; any other 10 bytes end the frame DONE, MALFORMED. In both outcomes the sequence they carry is written
into the entry. -/
def Obligations.HeaderBuiltOrParsed : Prop :=
  (∀ (l : LaneId) (s : State) (f : WorkFrame) (k : FetchedKey), s.power = .running → (s.lane l).work = some f →
    f.phase = .header → f.fetched = some k → f.job.dir = .toProtect →
    exec (.header l) s = .next (s.setLane l { s.lane l with
      work := some { f with
        header := bytesOf 2 f.job.tag.toNat
          ++ [BitVec.ofBool k.marker ++ tagLenCode f.job.tagLen ++ (0 : BitVec 5), 0] ++ bytesOf 6 f.job.reserved.toNat
        nonce := some (k.salt ++ k.generation ++ (0 : Byte) ++ f.job.reserved)
        phase := .body } })) ∧
  ∀ (l : LaneId) (s : State) (f : WorkFrame) (k : FetchedKey) (x : List Byte) (seq : SeqNo), s.power = .running →
    (s.lane l).work = some f → f.phase = .header → f.fetched = some k → f.job.dir = .toAdmit →
    x = (f.input.drop (headerOffset f.job.layout)).take 10 → x.length = 10 → x.drop 4 = bytesOf 6 seq.toNat →
    exec (.header l) s = .next
      (let passes := x.take 4 = bytesOf 2 f.job.tag.toNat
         ++ [BitVec.ofBool f.job.marker ++ tagLenCode f.job.tagLen ++ (0 : BitVec 5), 0] ∧ seq ≠ 0
       { s.setLane l { s.lane l with
           work := some { f with
             header := x
             nonce := if passes then some (k.salt ++ k.generation ++ (0 : Byte) ++ seq) else none
             phase := if passes then .body else .done .malformed } } with
         queue := s.queue.map fun e =>
           match e with
           | .lane e => if e.job.id = f.job.id then .lane { e with seq := seq, parsed := true } else .lane e
           | .refused e => .refused e })

/-- BODY takes the steps in list order; what each step reads, what it adds to the output and to the gathered tag inputs,
and the keystream it uses follow its kind. That a CIPHER byte is combined with its keystream byte by exclusive or is
presumed by the model (assumption 32). -/
def Obligations.BodyTakesStepsByKind : Prop :=
  (∀ (l : LaneId) (s : State) (f : WorkFrame) (k : FetchedKey) (n : Nonce), s.power = .running →
    (s.lane l).work = some f → f.phase = .body → f.fetched = some k → f.nonce = some n →
    (let r := f.job.layout.foldl (bodyStep f.job.dir k.key n f.header)
       { input := f.input, used := 0, output := [], authClear := [], cipherBytes := [] }
     exec (.body l) s = .next (s.setLane l { s.lane l with
       work := some { f with
         phase := .tag, output := r.output, authClear := r.authClear, cipherBytes := r.cipherBytes } }))) ∧
  ∀ (d : Direction) (k : ContextKey) (n : Nonce) (x here rest : List Byte) (r : BodyRun), r.input = here ++ rest →
    bodyStep d k n x r (.clear, here.length) =
      { r with input := rest, output := r.output ++ here, authClear := r.authClear ++ here } ∧
    bodyStep d k n x r (.skip, here.length) = { r with input := rest, output := r.output ++ here } ∧
    bodyStep d k n x r (.strip, here.length) = { r with input := rest } ∧
    bodyStep d k n x r (.tag, here.length) = r ∧
    (let run := here.mapIdx fun i b => b ^^^ Config.keystream k n (r.used + i)
     bodyStep d k n x r (.cipher, here.length) =
       { r with
         input := rest
         used := r.used + here.length
         output := r.output ++ run
         cipherBytes := r.cipherBytes ++ if d = .toProtect then run else here }) ∧
    bodyStep .toProtect k n x r (.header, 10) = { r with output := r.output ++ x, authClear := r.authClear ++ x } ∧
    (here.length = 10 →
      bodyStep .toAdmit k n x r (.header, 10) = { r with input := rest, authClear := r.authClear ++ here })

/-- TAG of a protect appends the first tag-length bytes of the tag and the frame is DONE, FINISHED; TAG of an admit
compares them with the last tag-length bytes of the input: VERIFIED if equal, else VERIFY_FAIL. -/
def Obligations.TagAppendedOrCompared : Prop :=
  ∀ (l : LaneId) (s : State) (f : WorkFrame) (k : FetchedKey) (n : Nonce), s.power = .running →
    (s.lane l).work = some f → f.phase = .tag → f.fetched = some k → f.nonce = some n →
    (let t := (bytesOf 16 (Config.authTag k.key n f.authClear f.cipherBytes).toNat).take (tagLenNat f.job.tagLen)
     (f.job.dir = .toProtect → exec (.tag l) s = .next (s.setLane l { s.lane l with
       work := some { f with output := f.output ++ t, phase := .done .finished } })) ∧
     (f.job.dir = .toAdmit → exec (.tag l) s = .next (s.setLane l { s.lane l with
       work := some { f with
         phase := .done
           (if f.input.drop (f.input.length - tagLenNat f.job.tagLen) = t then .verified else .verifyFail) } })))

/-- A frame of exactly its input length, through BODY and TAG by a valid recipe, leaves an output of exactly the output
length fixed at its dispatch. -/
def Obligations.OutputHasResolvedLength : Prop :=
  ∀ (l : LaneId) (s : State) (f : WorkFrame) (k : FetchedKey) (n : Nonce) (d : RecipeDef),
    s.power = .running → (s.lane l).work = some f → f.phase = .body → f.fetched = some k → f.nonce = some n →
    d.sound = true → resolve d f.job.dir f.input.length = some f.job.layout → f.job.tagLen = d.tagLen →
    f.header.length = 10 → ∃ t u g,
    exec (.body l) s = .next t ∧ exec (.tag l) t = .next u ∧ (u.lane l).work = some g ∧
    g.output.length = outputLength f.job.dir f.input.length d.tagLen f.job.layout

/-- Admitting what a protect made gives its input back. A protect by a valid recipe without STRIP goes through HEADER,
BODY and TAG; an admit of the frame it leaves, by the same recipe, under the same key, salt, generation and marker, is
VERIFIED with the protect's input as its output and the reserved number as its sequence. The model's combination of CIPHER
bytes is presumed to be exclusive or (assumption 32). -/
def Obligations.AdmitUndoesProtect : Prop :=
  ∀ (l m : LaneId) (s t : State) (f g : WorkFrame) (k : FetchedKey) (d : RecipeDef),
    s.power = .running → (s.lane l).work = some f → f.phase = .header → f.fetched = some k →
    f.job.dir = .toProtect → f.job.reserved ≠ 0 →
    d.sound = true → (∀ st ∈ d.steps, st.kind ≠ .strip) → f.job.tagLen = d.tagLen →
    resolve d .toProtect f.input.length = some f.job.layout →
    t.power = .running → (t.lane m).work = some g → g.phase = .header → g.fetched = some k →
    g.job.dir = .toAdmit → g.job.tag = f.job.tag → g.job.marker = k.marker → g.job.tagLen = d.tagLen →
    resolve d .toAdmit g.input.length = some g.job.layout →
    ∃ s1 s2 s3 f3, exec (.header l) s = .next s1 ∧ exec (.body l) s1 = .next s2 ∧ exec (.tag l) s2 = .next s3 ∧
      (s3.lane l).work = some f3 ∧ f3.phase = .done .finished ∧
      (g.input = f3.output → ∃ t1 t2 t3 g3,
        exec (.header m) t = .next t1 ∧ exec (.body m) t1 = .next t2 ∧ exec (.tag m) t2 = .next t3 ∧
        (t3.lane m).work = some g3 ∧ g3.phase = .done .verified ∧ g3.output = f.input ∧
        ∀ e : LaneEntry, .lane e ∈ t.queue → e.job.id = g.job.id →
          .lane { e with seq := f.job.reserved, parsed := true } ∈ t3.queue)

/-- A lane fault ends the frames in WORK and STAGE FAULTED, takes the lane OFFLINE with both positions empty and sets
LANE_DOWN. The WORK frame's slot gets the full report, the STAGE frame's slot, if another, the ancillary one, each with
ending CUT. OUT and the other lane are kept; an arriving frame's remaining words are discarded. -/
def Obligations.LaneFaultTakesLaneOffline : Prop :=
  ∀ (l : LaneId) (s : State) (f : WorkFrame) (p : CondPhase), s.power = .running → (s.lane l).work = some f →
    faultPhase f.phase = some p →
    exec (.laneFault l) s = .next
      (let ids := ((s.lane l).stage.map fun g => g.job.id).toList ++ [f.job.id]
       let u := endJobs ids .faulted s
       let u := { u.setLane l { u.lane l with state := .offline } with laneDown := true }
       let u := applyEnding .cut f.job.slot
         (raiseOn
           { cls := .laneFault, phase := some p, lane := some l
             seq := if f.job.dir = .toProtect then some f.job.reserved else none } f.job.slot u)
       match (s.lane l).stage with
       | some g =>
         if g.job.slot = f.job.slot then u
         else applyEnding .cut g.job.slot
           (raiseOn { cls := .laneFault, lane := some l, ancillary := true } g.job.slot u)
       | none => u)

/-- Ending jobs, wherever a rule ends them: their LANE entries not ENDED yet become ENDED with the verdict and keep all
else; their frames leave every position; the intake, if it was streaming one of them, discards; nothing else changes. -/
def Obligations.EndedJobsLeaveTheirLanes : Prop :=
  ∀ (ids : List Nat) (v : EndVerdict) (s : State),
    (let t := endJobs ids v s
     t = { s with queue := t.queue, laneA := t.laneA, laneB := t.laneB, intake := t.intake } ∧
     t.queue.length = s.queue.length ∧
     (∀ (i : Nat) (e : LaneEntry), s.queue[i]? = some (.lane e) → e.job.id ∈ ids → (∀ x, e.status ≠ .ended x) →
       t.queue[i]? = some (.lane { e with status := .ended v })) ∧
     (∀ (i : Nat) (e : LaneEntry), s.queue[i]? = some (.lane e) → e.job.id ∉ ids ∨ (∃ x, e.status = .ended x) →
       t.queue[i]? = some (.lane e)) ∧
     (∀ (i : Nat) (e : RefusedEntry), s.queue[i]? = some (.refused e) → t.queue[i]? = some (.refused e)) ∧
     (∀ l : LaneId, (t.lane l).state = (s.lane l).state ∧
       (∀ f, (t.lane l).stage = some f ↔ (s.lane l).stage = some f ∧ f.job.id ∉ ids) ∧
       (∀ f, (t.lane l).work = some f ↔ (s.lane l).work = some f ∧ f.job.id ∉ ids) ∧
       ∀ f, (t.lane l).out = some f ↔ (s.lane l).out = some f ∧ f.job.id ∉ ids) ∧
     ((∃ j l n, s.intake = .streaming j l n ∧ j.id ∈ ids) → t.intake = .discarding) ∧
     ((¬∃ j l n, s.intake = .streaming j l n ∧ j.id ∈ ids) → t.intake = s.intake))

/-! ## Release and Frame Out -/

/-- A REFUSED head is sent with its verdict, length and sequence 0, and nothing else changes; an ENDED one is sent with
its verdict and its own sequence, without a record check. A PENDING head, or a result in sending, holds release back. -/
def Obligations.EntriesReleasedUnjudged : Prop :=
  (∀ (s : State) (e : RefusedEntry) (rest : List Entry) (ds dr : List Damage), HeadFree s (.refused e) rest →
    exec (.release ds dr) s = .next
      { s with
        queue := rest
        sending := some
          { verdict := e.verdict, marker := e.marker, slot := e.slot, tag := e.tag, outLen := 0, seq := 0
            lane := none, wordsSent := 0 } }) ∧
  (∀ (s : State) (e : LaneEntry) (rest : List Entry) (v : EndVerdict) (ds dr : List Damage),
    HeadFree s (.lane e) rest → e.status = .ended v →
    exec (.release ds dr) s = .next (({ s with queue := rest } : State).leaving e
      (match v with | .framing => .framing | .aborted => .aborted | .faulted => .faulted) 0)) ∧
  ∀ (s : State) (ds dr : List Damage),
    s.sending ≠ none ∨ s.queue = [] ∨ (∃ e rest, s.queue = .lane e :: rest ∧ e.status = .pending) →
    exec (.release ds dr) s = .next s

/-- A FINISHED protect whose slot's record passes its check is PASSED: frames protected counts one more, and its output
is sent with the reserved number. -/
def Obligations.ProtectReleasedPassed : Prop :=
  ∀ (s : State) (ds dr : List Damage) (e : LaneEntry) (n : Nat) (c : Context), Releasable s ds e .finished n c →
    exec (.release ds dr) s = .next
      (((s.dequeued ds).updateSlot e.job.slot fun c => { c with framesProtected := c.framesProtected + 1 }).leaving e
        .passed n)

/-- A FINISHED admit is judged against its slot as it stands: MALFORMED changes no count; VERIFY_FAIL counts a failure
and a refusal and raises VERIFY_LIMIT when it reaches a non-zero limit; VERIFIED at or below the watermark is STALE,
above it PASSED, the watermark raised, the failures cleared, frames admitted counted. -/
def Obligations.AdmitJudgedAtRelease : Prop :=
  ∀ (s : State) (ds dr : List Damage) (e : LaneEntry) (o : LaneOutcome) (n : Nat) (c : Context),
    Releasable s ds e o n c →
    (let k := e.job.slot
     let u := s.dequeued ds
     (o = .malformed → exec (.release ds dr) s = .next (u.leaving e .malformed 0)) ∧
     (o = .verifyFail → exec (.release ds dr) s = .next
       (let failures := if c.verifyFailures = 255 then 255 else c.verifyFailures + 1
        let u := u.setSlot k (some { c with framesRefused := c.framesRefused + 1, verifyFailures := failures })
        let limit := c.verifyFailures ≠ 255 ∧ failures = c.settings.verifyLimit ∧ c.settings.verifyLimit ≠ 0
        (if limit then
          raiseOn { cls := .verifyLimit, hold := c.settings.flags.verifyHold, phase := some .release
                    seq := some e.seq } k u
        else u).leaving e .verifyFail 0)) ∧
     (o = .verified → e.seq ≤ c.watermark → exec (.release ds dr) s = .next
       ((u.setSlot k (some { c with framesRefused := c.framesRefused + 1 })).leaving e .stale 0)) ∧
     (o = .verified → c.watermark < e.seq →
       (c.state = .draining ∨ c.state = .retiring ∨ c.state = .standby ∧ c.settings.flags.peerRoll = false ∨
         c.state = .active ∧ drainingOf u c.tag = none) →
       exec (.release ds dr) s = .next
         ((u.setSlot k (some
           { c with watermark := e.seq, verifyFailures := 0, framesAdmitted := c.framesAdmitted + 1 })).leaving e
           .passed n)))

/-- A PASSED admit under the ACTIVE slot of a tag with a DRAINING one counts that slot's drain progress, and ends its
drain, reason BUDGET, when the progress is at a non-zero budget or, as the model takes it (assumption 30), above it. -/
def Obligations.PassedAdmitCountsDrainProgress : Prop :=
  ∀ (s : State) (ds dr : List Damage) (e : LaneEntry) (n : Nat) (c x : Context) (d : SlotNo),
    Releasable s ds e .verified n c → c.watermark < e.seq → c.state = .active →
    (s.entry c.tag).draining = some d → (s.dequeued ds).slot d = some x → x.state = .draining →
    exec (.release ds dr) s = .next
      (let u := (s.dequeued ds).setSlot e.job.slot (some
         { c with watermark := e.seq, verifyFailures := 0, framesAdmitted := c.framesAdmitted + 1 })
       let progress := if x.drainProgress = 65535 then 65535 else x.drainProgress + 1
       let u := u.setSlot d (some { x with drainProgress := progress })
       (if x.settings.drainBudget ≠ 0 ∧ x.settings.drainBudget ≤ progress then
          drainEnd .budget .release (some e.seq) d u
        else u).leaving e .passed n)

/-- A PASSED admit under a STANDBY with PEER_ROLL set makes the roll-over of its slot, whose reads carry phase RELEASE;
when it is made ROLLOVER is raised on the new ACTIVE, reason PEER. That the STANDBY is read first and its partner after it
whatever the first read finds, both with the admit's sequence, is the model's (assumption 18). -/
def Obligations.PassedAdmitMakesPeerRollOver : Prop :=
  ∀ (s : State) (ds dr : List Damage) (e : LaneEntry) (n : Nat) (c : Context),
    Releasable s ds e .verified n c → c.watermark < e.seq → c.state = .standby → c.settings.flags.peerRoll = true →
    exec (.release ds dr) s = .next
      (let u := (s.dequeued ds).setSlot e.job.slot (some
         { c with watermark := e.seq, verifyFailures := 0, framesAdmitted := c.framesAdmitted + 1 })
       let u := rollOver .release (some e.seq) e.job.slot (damage dr u)
       (if u.slotIs e.job.slot .active then
          raiseOn { cls := .rollover, phase := some .release, seq := some e.seq, reason := some .peer } e.job.slot u
        else u).leaving e .passed n)

/-- A record check that fails at a release quarantines the slot, ends its other unreleased entries, and releases the
entry ABORTED with no output bytes and no other effect. The check's sequence is valid for a protect and for an admit
that reached HEADER. -/
def Obligations.ReleaseCheckFailureAborts : Prop :=
  ∀ (s : State) (ds dr : List Damage) (e : LaneEntry) (rest : List Entry) (o : LaneOutcome) (n : Nat) (c : Context)
    (g : CheckGroup),
    HeadFree s (.lane e) rest → e.status = .finished o n → (s.dequeued ds).slot e.job.slot = some c →
    failingGroup c = some g →
    exec (.release ds dr) s = .next
      ((quarantine .release (if e.job.dir = .toProtect ∨ e.parsed = true then some e.seq else none) g e.job.slot
        (s.dequeued ds)).leaving e .aborted 0)

/-- Frame Out presents the four words of the Result Header, then the output bytes four to a word, with FIRST on the
first word and LAST and COUNT on the last; each acceptance takes one word, and the last frees Frame Out and empties the
lane's OUT. -/
def Obligations.ResultWordsLeaveInOrder : Prop :=
  ∀ (s : State) (x : Sending), s.power = .running → s.sending = some x →
    (let n := 4 + (x.outLen + 3) / 4
     let bytes : List Byte := match x.lane with
       | some l => ((s.lane l).out.map OutFrame.bytes).getD []
       | none => []
     (∃ w, frameOutWord s = some w ∧ (w.first = true ↔ x.wordsSent = 0) ∧ (w.last = true ↔ x.wordsSent + 1 = n) ∧
       (x.wordsSent + 1 = n → w.count.toNat = x.outLen % 4) ∧
       (x.wordsSent = 0 → w.data = verdictByte x.verdict ++ BitVec.ofBool x.marker ++ BitVec.ofBool x.slot.isNone
         ++ (0 : BitVec 6) ++ x.tag) ∧
       (x.wordsSent = 1 → w.data = (x.slot.map slotByte).getD 0 ++ (0 : BitVec 12) ++ BitVec.ofNat 12 x.outLen) ∧
       (x.wordsSent = 2 → w.data = (0 : BitVec 16) ++ x.seq.extractLsb' 32 16) ∧
       (x.wordsSent = 3 → w.data = x.seq.extractLsb' 0 32) ∧
       ∀ i, x.wordsSent = i + 4 → w.data = bytes.getD (4 * i) 0 ++ bytes.getD (4 * i + 1) 0
         ++ bytes.getD (4 * i + 2) 0 ++ bytes.getD (4 * i + 3) 0) ∧
     (x.wordsSent + 1 < n →
       exec .resultWord s = .next { s with sending := some { x with wordsSent := x.wordsSent + 1 } }) ∧
     (n ≤ x.wordsSent + 1 → exec .resultWord s = .next
       { (match x.lane with
          | some l => s.setLane l { s.lane l with out := none }
          | none => s) with sending := none }))

/-! ## Drain timers -/

/-- Expiry of a DRAINING slot's running timer that has reached 0: the slot is unbound, goes FREE with no frame in flight or
else RETIRING with its timer stopped, and DRAINED is raised on the tag's ACTIVE slot, reason and phase TIMER. With time
remaining, or stopped, a timer does not expire. That an idle step takes an expiry that is due, the lowest slot first, is
the model's choice (assumption 7), as is that the ACTIVE slot is one in state ACTIVE (assumption 19). -/
def Obligations.DrainTimerExpiryEndsDrain : Prop :=
  ∀ (s : State) (k : SlotNo), s.power = .running →
    ((∀ c, s.slot k = some c → c.timing = true → c.timerLeft ≠ 0) → exec (.drainTimerExpiry k) s = .next s) ∧
    ∀ c : Context, s.slot k = some c → c.timing = true → c.timerLeft = 0 →
      exec (.drainTimerExpiry k) s = .next
        (let u := s.setEntry c.tag ((s.entry c.tag).without k)
         let u :=
           if c.inFlight = 0 then freeSlot k u
           else u.setSlot k (some { c with state := .retiring, timerRuns := false })
         match activeOf u c.tag with
         | some a => raiseOn { cls := .drained, phase := some .timer, reason := some .timer } a u
         | none => u) ∧
      (s.pending = [] → s.serial = [] → (∀ j < k, ∀ x, s.slot j = some x → x.timing = true → x.timerLeft ≠ 0) →
        step s = exec (.drainTimerExpiry k) s)

/-! ## Commands -/

/-- A Start write while a command is in execution, whatever its code and whichever row spells it, sets START_REFUSED and
nothing else. -/
def Obligations.StartRefusedWhileExecuting : Prop :=
  ∀ (s : State) (c : Instr) (code : Byte), s.power = .running → s.unit ≠ .idle →
    c.startCode = some code ∨ c = .badCommand code ∨ c = .startRefused code ∨ c = .registerWrite 0x70 code →
    exec c s = .next { s with startRefused := true }

/-- With LOCK# asserted at its Start a guarded command completes with LOCK_LINE. With LOCK# released a context command
completes with LOCKED when its target tag lies in a lock range. Neither changes anything else; damage found at the Start is
the outside world's (assumption 3). What the refusals report is the model's choice (assumptions 9, 13). -/
def Obligations.LockChecksRefuse : Prop :=
  (∀ (s : State) (c : Instr) (code : Byte), c.startCode = some code → guardedCodes.contains code = true →
    CommandReady s → s.lockLine = true →
    ∃ fields : List Byte, exec c s = .next ((damage (foundBy c) s).answered code .lockLine fields)) ∧
  ∀ (s : State) (r : RangeNo) (n : LockRange) (ds : List Damage), Unlocked s → s.lockRange r = some n →
    (∀ c, s.slot s.namedSlot = some c → n.low ≤ c.tag → c.tag ≤ n.high →
      exec (.activate ds) s = .next ((damage ds s).answered 0x03 .locked []) ∧
      exec (.retire ds) s = .next ((damage ds s).answered 0x04 .locked []) ∧
      exec .purge s = .next (s.answered 0x06 .locked []) ∧
      (overridesAt s.commandBlock ≠ none →
        exec (.succeed ds) s = .next ((damage ds s).answered 0x02 .locked [])) ∧
      (modifyChangesAt s.commandBlock ≠ none →
        exec (.modify ds) s = .next ((damage ds s).answered 0x05 .locked []))) ∧
    ∀ x standby, installAt s.commandBlock = some (x, standby) → n.low ≤ x.tag → x.tag ≤ n.high →
      exec .install s = .next (s.answered 0x01 .locked (bytesAt s.commandBlock 0x00 2))

/-- A byte written to the location of Start runs the command its code names; a code that names none completes with
BAD_COMMAND. A byte whose eighth bit is received in a WRITE transaction runs the row of its location, and the next byte
concerns the next address; the bits before it write nothing, and CS# rising discards them. That the bits are events of
their own, with no row, is the model's choice (assumption 22), and so is that a command of one event is executed at its
Start (assumption 37). -/
def Obligations.StartByteRunsItsCommand : Prop :=
  (∀ (s : State) (code : Byte),
    exec (.registerWrite 0x70 code) s = exec (startRow code) s ∧ exec (.startRefused code) s = exec (startRow code) s ∧
    (commandCodes.contains code = true → (startRow code).startCode = some code) ∧
    (commandCodes.contains code = false → CommandReady s →
      exec (.badCommand code) s = .next (s.answered code .badCommand []))) ∧
  ∀ s : State, s.power = .running → s.port = .deselected →
    (∀ addr : Byte,
      s.lines (.csFall :: (bytePins 0xA5 ++ bytePins addr)) = { s with port := .writing addr [] }) ∧
    ∀ (addr : Byte) (bits : List Bool) (x : Bool), bits.length ≤ 7 →
      (bits.length < 7 →
        serialEvent (.sckRise x) { s with port := .writing addr bits } =
          { s with port := .writing addr (bits ++ [x]) }) ∧
      (bits.length = 7 →
        ∃ t, exec (writeRow addr (byteOfBits (bits ++ [x]))) { s with port := .writing addr bits } = .next t ∧
          serialEvent (.sckRise x) { s with port := .writing addr bits } =
            { t with port := .writing (addr + 1) [] }) ∧
      serialEvent .sckFall { s with port := .writing addr bits } = { s with port := .writing addr bits } ∧
      serialEvent .csRise { s with port := .writing addr bits } = s

/-- INSTALL whose checks pass takes the lowest-numbered FREE slot into LOADING with the block's fields and the reset
values of the others, reads the anchor key into the unwrap, and stays in execution. Its checks fail in order: BAD_FIELD,
ANCHOR_UNUSABLE, the admission test, NO_SLOT. -/
def Obligations.InstallTakesLowestFreeSlot : Prop :=
  (∀ s : State, Unlocked s → installAt s.commandBlock = none →
    exec .install s = .next (s.answered 0x01 .badField (bytesAt s.commandBlock 0x00 2))) ∧
  ∀ (s : State) (n : NewContext) (standby : Bool), Unlocked s → installAt s.commandBlock = some (n, standby) →
    tagLocked s n.tag = false →
    ((s.anchor n.anchor).state ≠ .programmed →
      exec .install s = .next (s.answered 0x01 .anchorUnusable (bytesAt s.commandBlock 0x00 2))) ∧
    ∀ key : AnchorKey, Usable s n.anchor key →
      (∀ r, AdmissionFails s n.tag standby (markerOf n.generation) r →
        exec .install s = .next (s.answered 0x01 r (bytesAt s.commandBlock 0x00 2))) ∧
      (Admits s n.tag standby (markerOf n.generation) →
        ((∀ k, s.slot k ≠ none) →
          exec .install s = .next (s.answered 0x01 .noSlot (bytesAt s.commandBlock 0x00 2))) ∧
        ∀ k, LowestFree s k →
          exec .install s = .next
            { (s.copied 0x01).setSlot k (some n.loading) with
              unit := .unwrapping { slot := k, standby := standby, anchorKey := key, named := none } })

/-- SUCCEED on an ACTIVE slot alone under its tag takes the lowest-numbered FREE slot into LOADING for place STANDBY: the
tag, the next generation, and each other field from its override or from the ACTIVE, the byte life as installed. Its other
refusals: an override out of range BAD_FIELD; a slot that is not ACTIVE, or whose record fails its check and is
quarantined, NO_ACTIVE; a low-life mark above the byte life BAD_FIELD; then ANCHOR_UNUSABLE, TAG_FULL, NO_SLOT. That the
mark is compared in check 5 alone is the model's choice (assumption 33). -/
def Obligations.SucceedTakesNextGeneration : Prop :=
  ∀ (s : State) (ds : List Damage), Unlocked s →
    (overridesAt s.commandBlock = none → exec (.succeed ds) s = .next ((damage ds s).answered 0x02 .badField [])) ∧
    ∀ o : Overrides, overridesAt s.commandBlock = some o → slotLocked s s.namedSlot = false →
      (s.slotIs s.namedSlot .active = false →
        exec (.succeed ds) s = .next ((damage ds s).answered 0x02 .noActive [])) ∧
      (∀ (x : Context) (g : CheckGroup), (damage ds s).slot s.namedSlot = some x → x.state = .active →
        failingGroup x = some g →
        exec (.succeed ds) s = .next
          ((quarantine .command none g s.namedSlot (damage ds s)).answered 0x02 .noActive [])) ∧
      ∀ x : Context, Intact (damage ds s) s.namedSlot x → x.state = .active →
        (let n := successor s.commandBlock o x
         let refusal := fun r => exec (.succeed ds) s = .next ((damage ds s).answered 0x02 r [])
         n.tag = x.tag ∧ n.generation = x.generation + 1 ∧ n.life = o.life.getD x.lifeInstalled ∧
         n.anchor = o.anchor.getD x.anchor ∧ n.keyWidth = o.keyWidth.getD x.keyWidth ∧
         (n.life < n.settings.lowMark → refusal .badField) ∧
         (n.settings.lowMark ≤ n.life → (s.anchor n.anchor).state ≠ .programmed → refusal .anchorUnusable) ∧
         ∀ key : AnchorKey, n.settings.lowMark ≤ n.life → Usable s n.anchor key →
           (2 ≤ (s.entry x.tag).bound.length → refusal .tagFull) ∧
           ((s.entry x.tag).bound.length < 2 →
             ((∀ k, s.slot k ≠ none) → refusal .noSlot) ∧
             ∀ k : SlotNo, LowestFree s k →
               exec (.succeed ds) s = .next
                 { ((damage ds s).copied 0x02).setSlot k (some n.loading) with
                   unit := .unwrapping
                     { slot := k, standby := true, anchorKey := key, named := some s.namedSlot } }))

/-- The completion of an unwrap has three outcomes. It failed: the slot goes FREE, UNWRAP_FAILED. The pair no longer
admits the marker: the slot goes FREE, TAG_CONFLICT with the failing test. Else the key is written and the slot is bound
in the requested place and enters the state of that place, DONE. -/
def Obligations.UnwrapCompletesOneOfThreeWays : Prop :=
  ∀ (s : State) (u : Unwrap) (c : CommandCopy) (x : Context), s.power = .running → s.unit = .unwrapping u →
    s.copy = some c → s.slot u.slot = some x →
    (unwrapAt c.block x.keyWidth u.anchorKey = none →
      exec .unwrapCompletion s = .next
        ((freeSlot u.slot s).completed c.code .unwrapFailed (bytesOf 2 x.tag.toNat))) ∧
    ∀ key : ContextKey, unwrapAt c.block x.keyWidth u.anchorKey = some key →
      (∀ r, AdmissionFails s x.tag u.standby x.marker r → ∃ pair,
        exec .unwrapCompletion s = .next
          ((freeSlot u.slot s).completed c.code .tagConflict (bytesOf 2 x.tag.toNat ++ [resultByte r] ++ pair))) ∧
      (Admits s x.tag u.standby x.marker →
        exec .unwrapCompletion s = .next
          (((s.setSlot u.slot (some
            { x with
              key := some key
              checks := { x.checks with keyOk := true }
              state := if u.standby then .standby else .active })).setEntry x.tag
                ((s.entry x.tag).withRole u.standby u.slot)).completed c.code .done (installedReport u x)))

/-- ACTIVATE of a STANDBY makes it ACTIVE. An ACTIVE partner becomes DRAINING, its progress 0 and its timer loaded; a
DRAINING or QUARANTINED partner keeps its record and holds place DRAINING; a partner whose record fails its check at this
read is quarantined into place DRAINING, DONE all the same. A STANDBY whose record fails is quarantined in its place and
no roll-over is made, whatever the partner's read finds: BAD_STATE, as for a slot in another state. That the STANDBY is
read first, and a DRAINING partner too, is the model's (assumption 18). -/
def Obligations.ActivateRollsOver : Prop :=
  ∀ (s : State) (ds : List Damage), Unlocked s → slotLocked s s.namedSlot = false →
    (s.slotIs s.namedSlot .standby = false →
      exec (.activate ds) s = .next ((damage ds s).answered 0x03 .badState [])) ∧
    ∀ c : Context, (damage ds s).slot s.namedSlot = some c → c.state = .standby → DirectoryFormed s → c.tag ≠ 0 →
      (s.entry c.tag = ⟨none, some s.namedSlot, none⟩ →
        (failingGroup c = none →
          exec (.activate ds) s = .next
            ((((damage ds s).setSlot s.namedSlot (some { c with state := .active })).setEntry c.tag
              ⟨some s.namedSlot, none, none⟩).answered 0x03 .done [slotByte s.namedSlot])) ∧
        ∀ g, failingGroup c = some g →
          exec (.activate ds) s = .next
            ((quarantine .command none g s.namedSlot (damage ds s)).answered 0x03 .badState [])) ∧
      ∀ (p : SlotNo) (q : Context), p ≠ s.namedSlot → (damage ds s).slot p = some q →
        s.entry c.tag = ⟨some p, some s.namedSlot, none⟩ ∨ s.entry c.tag = ⟨none, some s.namedSlot, some p⟩ →
        (let rolled := fun (u : State) => (u.setSlot s.namedSlot (some { c with state := .active })).setEntry c.tag
           ⟨some s.namedSlot, none, some p⟩
         (failingGroup c = none → failingGroup q = none →
           (let q' :=
              if q.state = .active then
                { q with
                  state := .draining, drainProgress := 0, timerLeft := q.settings.drainTime
                  timerRuns := q.settings.drainTime != 0 }
              else q
            exec (.activate ds) s = .next
              ((rolled ((damage ds s).setSlot p (some q'))).answered 0x03 .done
                [slotByte s.namedSlot, slotByte p, ctxStateByte q'.state]))) ∧
         (∀ g, failingGroup c = none → failingGroup q = some g →
           exec (.activate ds) s = .next
             ((rolled (quarantine .command none g p (damage ds s))).answered 0x03 .done
               [slotByte s.namedSlot, slotByte p, 0x06])) ∧
         (∀ g, failingGroup c = some g → failingGroup q = none →
           exec (.activate ds) s = .next
             ((quarantine .command none g s.namedSlot (damage ds s)).answered 0x03 .badState [])) ∧
         ∀ g g', failingGroup c = some g → failingGroup q = some g' →
           exec (.activate ds) s = .next
             ((quarantine .command none g' p (quarantine .command none g s.namedSlot (damage ds s))).answered 0x03
               .badState []))

/-- RETIRE of a STANDBY, ACTIVE or DRAINING slot unbinds it: FREE with no frame in flight, else RETIRING with its timer
stopped; no DRAINED is raised. In the other states it changes nothing and says which; a failing record quarantines the
slot and gives BAD_STATE. -/
def Obligations.RetireUnbinds : Prop :=
  ∀ (s : State) (ds : List Damage), Unlocked s → slotLocked s s.namedSlot = false →
    (s.slot s.namedSlot = none →
      exec (.retire ds) s = .next ((damage ds s).answered 0x04 .notInUse [])) ∧
    ∀ c : Context, (damage ds s).slot s.namedSlot = some c →
      (c.state = .retiring → exec (.retire ds) s = .next ((damage ds s).answered 0x04 .alreadyRetiring [])) ∧
      (c.state = .loading ∨ c.state = .quarantined →
        exec (.retire ds) s = .next ((damage ds s).answered 0x04 .badState [])) ∧
      (c.state = .standby ∨ c.state = .active ∨ c.state = .draining →
        (∀ g, failingGroup c = some g →
          exec (.retire ds) s = .next
            ((quarantine .command none g s.namedSlot (damage ds s)).answered 0x04 .badState [])) ∧
        (failingGroup c = none →
          (let u := (damage ds s).setEntry c.tag ((s.entry c.tag).without s.namedSlot)
           (c.inFlight = 0 →
             exec (.retire ds) s = .next ((freeSlot s.namedSlot u).answered 0x04 .done [0x00, 0x00])) ∧
           (c.inFlight ≠ 0 →
             exec (.retire ds) s = .next
               ((u.setSlot s.namedSlot (some { c with state := .retiring, timerRuns := false })).answered 0x04 .done
                 [0x05, BitVec.ofNat 8 c.inFlight])))))

/-- MODIFY of a STANDBY, ACTIVE or DRAINING slot changes the selected settings together, or none; a new budget already
reached ends a DRAINING slot's drain at once, reason BUDGET. A selected field out of its own range gives BAD_FIELD, a slot
in another state, or one whose record fails its check and is quarantined, BAD_STATE, a mark above the byte life installed
or a ceiling below next sequence less one BAD_FIELD. The order of its report is the model's choice (assumption 11). -/
def Obligations.ModifyChangesSelectedSettings : Prop :=
  ∀ (s : State) (ds : List Damage), Unlocked s →
    (modifyChangesAt s.commandBlock = none →
      exec (.modify ds) s = .next ((damage ds s).answered 0x05 .badField [])) ∧
    ∀ ch : SettingChanges, modifyChangesAt s.commandBlock = some ch → slotLocked s s.namedSlot = false →
      ((∀ c, s.slot s.namedSlot = some c → c.state = .loading ∨ c.state = .retiring ∨ c.state = .quarantined) →
        exec (.modify ds) s = .next ((damage ds s).answered 0x05 .badState [])) ∧
      ∀ c : Context, (damage ds s).slot s.namedSlot = some c →
        c.state = .standby ∨ c.state = .active ∨ c.state = .draining →
        (∀ g, failingGroup c = some g →
          exec (.modify ds) s = .next
            ((quarantine .command none g s.namedSlot (damage ds s)).answered 0x05 .badState [])) ∧
        (failingGroup c = none →
          (let fits := (∀ m, ch.lowMark = some m → m ≤ c.lifeInstalled) ∧
             ∀ m, ch.ceiling = some m → c.nextSeq.toNat ≤ m.toNat + 1
           let new := ch.apply c.settings
           let u := (damage ds s).setSlot s.namedSlot (some { c with settings := new })
           let ends := c.state = .draining ∧ ch.drainBudget ≠ none ∧ new.drainBudget ≠ 0 ∧
             new.drainBudget ≤ c.drainProgress
           (¬fits → exec (.modify ds) s = .next ((damage ds s).answered 0x05 .badField [])) ∧
           (fits → ¬ends → exec (.modify ds) s = .next
             (u.answered 0x05 .done ([slotByte s.namedSlot, ctxStateByte c.state] ++ settingsReport new))) ∧
           (fits → ends → ∃ fields, exec (.modify ds) s = .next
             ((drainEnd .budget .command none s.namedSlot u).answered 0x05 .done fields))))

/-- PURGE frees a QUARANTINED slot that has no Condition Record and no frame in flight, and unbinds it; one that has a
record or frames gives PENDING, and a slot in another state BAD_STATE. -/
def Obligations.PurgeFreesQuarantinedSlot : Prop :=
  ∀ s : State, Unlocked s → slotLocked s s.namedSlot = false →
    (s.slotIs s.namedSlot .quarantined = false → exec .purge s = .next (s.answered 0x06 .badState [])) ∧
    ∀ c : Context, s.slot s.namedSlot = some c → c.state = .quarantined →
      (s.cond s.namedSlot = none → c.inFlight = 0 →
        exec .purge s = .next
          ((freeSlot s.namedSlot (s.setEntry c.tag ((s.entry c.tag).without s.namedSlot))).answered 0x06 .done
            ([slotByte s.namedSlot] ++ bytesOf 2 c.tag.toNat
              ++ [yesNo ((s.entry c.tag).placeOf s.namedSlot).isSome]))) ∧
      (s.cond s.namedSlot ≠ none ∨ c.inFlight ≠ 0 →
        exec .purge s = .next
          (s.answered 0x06 .pending [yesNo (s.cond s.namedSlot).isSome, BitVec.ofNat 8 c.inFlight]))

/-- QUERY reports every field of a slot's record but the key, after the record check, which it makes in the four live
states; QUERY_TAG reports the pair of a tag in place order. Apart from a failing check they change nothing. What
QUERY_TAG's NOT_IN_USE reports is the model's choice (assumption 12), and so are the values QUERY reports for the fields
of a damaged group (assumption 3). -/
def Obligations.QueriesReport : Prop :=
  (∀ (s : State) (ds : List Damage), CommandReady s → (s.slot s.namedSlot = none →
      exec (.query ds) s = .next ((damage ds s).answered 0x07 .notInUse [0x00])) ∧
    ∀ c : Context, (damage ds s).slot s.namedSlot = some c →
      (failingGroup c = none →
        exec (.query ds) s = .next
          ((damage ds s).answered 0x07 .done (queryReport s.namedSlot c (damage ds s)))) ∧
      ∀ g, failingGroup c = some g →
        (let u := quarantine .command none g s.namedSlot (damage ds s)
         exec (.query ds) s = .next (u.answered 0x07 .done
           (queryReport s.namedSlot { c with state := .quarantined, key := none, timerRuns := false } u)))) ∧
  ∀ s : State, CommandReady s →
    (tagAt s.commandBlock 0x00 = none → exec .queryTag s = .next (s.answered 0x08 .badField [])) ∧
    ∀ t : Tag, tagAt s.commandBlock 0x00 = some t →
      exec .queryTag s = .next
        (s.answered 0x08 (if s.entry t = DirEntry.empty then .notInUse else .done)
          (bytesOf 2 t.toNat ++ bytesOf 1 (s.entry t).bound.length
            ++ ((s.entry t).bound.map (boundReport s)).flatten))

/-- SOFT_RESET: every entry of the queue and every frame but the one in sending is dropped, both lanes are ONLINE,
RETIRING slots are freed with their records, in-flight counts are 0, and FRAMES_LOST with ending DISCARDED is raised in
rising slot number on each slot still in use that a dropped LANE entry named, a new record going to the tail of the
Attention Queue. Contexts, pairs, recipes, anchors, locks, flags but COMMAND_DONE, and the result in sending stay. It
reports the numbers of entries dropped, of RETIRING slots freed and of slots with FRAMES_LOST, one byte each (for the
first the model's choice, assumption 31). -/
def Obligations.SoftResetDropsFrames : Prop :=
  ∀ s : State, CommandReady s →
    (let lost := fun k : SlotNo => s.queue.any (Entry.names k) && raisable s k && !s.slotIs k .retiring
     let slots := List.finRange 256
     ∃ t, exec .softReset s = .next t ∧
       t = ({ s with
         slots := t.slots, recipes := t.recipes, intake := .awaitJob, lastLane := .laneB, laneA := t.laneA
         laneB := t.laneB, queue := [], conds := t.conds, attention := t.attention } : State).answered 0x09 .done
           [BitVec.ofNat 8 s.queue.length, BitVec.ofNat 8 (slots.filter fun k => s.slotIs k .retiring).length,
             BitVec.ofNat 8 (slots.filter lost).length] ∧
       (∀ k : SlotNo, t.slot k = (s.slot k).bind fun c =>
         if c.state = .retiring then none else some { c with inFlight := 0 }) ∧
       (∀ n : RecipeNo, t.recipe n = { s.recipe n with inFlight := 0 }) ∧
       (∀ l : LaneId, (t.lane l).state = .online ∧ (t.lane l).stage = none ∧ (t.lane l).work = none ∧
         ((∃ x, s.sending = some x ∧ x.lane = some l) → (t.lane l).out = (s.lane l).out) ∧
         ((¬∃ x, s.sending = some x ∧ x.lane = some l) → (t.lane l).out = none)) ∧
       t.attention = (s.attention.filter fun k => !s.slotIs k .retiring)
         ++ slots.filter (fun k => lost k && (s.cond k).isNone) ∧
       ∀ k : SlotNo,
         (s.slotIs k .retiring = true → t.cond k = none) ∧
         (s.slotIs k .retiring = false → lost k = false → t.cond k = s.cond k) ∧
         (lost k = true → t.cond k = some
           (match s.cond k with
            | none =>
              { primary := .framesLost, classes := condClassBit .framesLost, overlap := 0, holding := false
                phase := some .command, lane := none, seq := none, group := none, reason := none, ancillary := false
                ending := .discarded }
            | some r =>
              { r with
                classes := r.classes ||| condClassBit .framesLost
                overlap := if r.overlap < 15 then r.overlap + 1 else 15
                ending := .discarded })))

/-- WRITE_RECIPE replaces the definition of a recipe with no frame in flight by one that passes the validation;
CLEAR_RECIPE empties such a recipe; READ_RECIPE reports it. A refusal leaves the recipe as it was. The state code that
READ_RECIPE reports is a free value (assumption 6), and one byte for WRITE_RECIPE's index is the model's choice (assumption
31). -/
def Obligations.RecipeCommandsChangeOneRecipe : Prop :=
  (∀ s : State, Unlocked s →
    (∀ n d, checkRecipe s.commandBlock s = .ok (n, d) →
      d.sound = true ∧ (s.recipe n).inFlight = 0 ∧
      exec .writeRecipe s = .next
        ((s.setRecipe n { defn := some d, inFlight := 0 }).answered 0x10 .done [BitVec.ofNat 8 n.val])) ∧
    (∀ r, checkRecipe s.commandBlock s = .error r → exec .writeRecipe s = .next (s.answered 0x10 r [])) ∧
    (∀ n, indexAt s.commandBlock 0x00 16 = some n →
      ((s.recipe n).inFlight = 0 →
        exec .clearRecipe s = .next ((s.setRecipe n { defn := none, inFlight := 0 }).answered 0x11 .done [])) ∧
      ((s.recipe n).inFlight ≠ 0 → exec .clearRecipe s = .next (s.answered 0x11 .recipeBusy []))) ∧
    (indexAt s.commandBlock 0x00 16 = none → exec .clearRecipe s = .next (s.answered 0x11 .badField []))) ∧
  ∀ s : State, CommandReady s →
    (∀ n, indexAt s.commandBlock 0x00 16 = some n →
      exec .readRecipe s = .next (s.answered 0x12 .done (recipeReport (s.recipe n)))) ∧
    (indexAt s.commandBlock 0x00 16 = none → exec .readRecipe s = .next (s.answered 0x12 .badField []))

/-- ABORT_LANES ends every job in STAGE and WORK of both lanes ABORTED, raises the ending CUT on the records of their
slots, keeps OUT, and reports how many it ended in each lane, Lane A's first, one byte each (the model's choice, assumption 31).
RESTORE_LANE makes an OFFLINE lane ONLINE and empty but
for OUT. -/
def Obligations.LaneCommandsAct : Prop :=
  (∀ s : State, CommandReady s → exec .abortLanes s = .next
    (let jobs := fun l : LaneId =>
       ((s.lane l).stage.map StageFrame.job).toList ++ ((s.lane l).work.map WorkFrame.job).toList
     let all := jobs .laneA ++ jobs .laneB
     (all.foldl (fun u j => applyEnding .cut j.slot u) (endJobs (all.map Job.id) .aborted s)).answered 0x18 .done
       [BitVec.ofNat 8 (jobs .laneA).length, BitVec.ofNat 8 (jobs .laneB).length])) ∧
  ∀ s : State, CommandReady s →
    (∀ l : LaneId, byteAt s.commandBlock 0x00 = laneByte l →
      ((s.lane l).state = .online → exec .restoreLane s = .next (s.answered 0x19 .badState [])) ∧
      ((s.lane l).state = .offline → exec .restoreLane s = .next
        ((s.setLane l { state := .online, stage := none, work := none, out := (s.lane l).out }).answered 0x19 .done
          []))) ∧
    (byteAt s.commandBlock 0x00 ≠ 0x00 → byteAt s.commandBlock 0x00 ≠ 0x01 →
      exec .restoreLane s = .next (s.answered 0x19 .badField []))

/-- COLLECT of a slot, and COLLECT_NEXT of the slot at the head of the Attention Queue, report the slot's record and
delete it as one change; with no record they complete with NOTHING_PENDING and change nothing. -/
def Obligations.CollectDeletesRecord : Prop :=
  ∀ s : State, CommandReady s →
    (s.cond s.namedSlot = none → ∃ fields, exec .collect s = .next (s.answered 0x20 .nothingPending fields)) ∧
    (∀ r, s.cond s.namedSlot = some r →
      exec .collect s = .next
        ((deleteCond s.namedSlot s).answered 0x20 .done
          ([slotByte s.namedSlot, slotStateByte (s.slot s.namedSlot), inFlightByte s s.namedSlot]
            ++ bytesOf 2 (s.attention.filter fun j => j != s.namedSlot).length ++ recordReport r))) ∧
    (s.attention = [] → exec .collectNext s = .next (s.answered 0x21 .nothingPending [])) ∧
    ∀ k rest r, s.attention = k :: rest → s.cond k = some r →
      exec .collectNext s = .next
        ((deleteCond k s).answered 0x21 .done
          ([slotByte k, slotStateByte (s.slot k), inFlightByte s k]
            ++ bytesOf 2 (s.attention.filter fun j => j != k).length ++ recordReport r))

/-! ## Anchors and locks -/

/-- PROGRAM_ANCHOR of a BLANK anchor and REVOKE_ANCHOR of a PROGRAMMED one open a write, the recorded state standing; in
the other states they give ANCHOR_USED and BAD_STATE. A programming write that reads back equal makes the anchor
PROGRAMMED with the copy's key, else DEFECTIVE with ANCHOR_FAILED, and the key's bytes in the Command Block are zeroed. A
revoke write that reads back REVOKED leaves it REVOKED with no key, else DEFECTIVE, DONE in both. What a DEFECTIVE anchor
holds and the zeroed copy are the model's choices (assumptions 14, 29). -/
def Obligations.AnchorsWritten : Prop :=
  (∀ (s : State) (a : AnchorNo), Unlocked s → indexAt s.commandBlock 0x00 8 = some a →
    (wordAt s.commandBlock 0x20 32 256 = 0 → ∃ fields, exec .programAnchor s = .next
      (s.answered 0x28 .badField fields)) ∧
    (wordAt s.commandBlock 0x20 32 256 ≠ 0 → (s.anchor a).state = .blank →
      exec .programAnchor s = .next
        { (s.copied 0x28).setAnchor a { s.anchor a with openWrite := some .programming } with
          unit := .programming a }) ∧
    (wordAt s.commandBlock 0x20 32 256 ≠ 0 → (s.anchor a).state ≠ .blank →
      exec .programAnchor s = .next
        (s.answered 0x28 .anchorUsed [BitVec.ofNat 8 a.val, anchorStateByte (s.anchor a).state])) ∧
    ((s.anchor a).state = .programmed →
      exec .revokeAnchor s = .next
        { (s.copied 0x29).setAnchor a { s.anchor a with openWrite := some .revoking } with unit := .revoking a }) ∧
    ((s.anchor a).state ≠ .programmed →
      exec .revokeAnchor s = .next
        (s.answered 0x29 .badState [BitVec.ofNat 8 a.val, anchorStateByte (s.anchor a).state]))) ∧
  ∀ (s : State) (c : CommandCopy) (a : AnchorNo), s.power = .running → s.copy = some c →
    (s.unit = .programming a → ∀ readBack : Option AnchorKey,
      (let key := wordAt c.block 0x20 32 256
       let wiped := { s with
         copy := some { c with block := zeroBytes c.block 0x20 32 }
         commandBlock := zeroBytes s.commandBlock 0x20 32 }
       (readBack = some key → exec (.anchorProgramComplete readBack) s = .next
         ((wiped.setAnchor a ⟨.programmed, some key, none⟩).completed c.code .done [byteAt c.block 0x00, 0x01])) ∧
       (readBack ≠ some key → exec (.anchorProgramComplete readBack) s = .next
         ((wiped.setAnchor a ⟨.defective, none, none⟩).completed c.code .anchorFailed
           [byteAt c.block 0x00, 0x03])))) ∧
    (s.unit = .revoking a →
      exec (.anchorRevokeComplete .revoked) s = .next
        ((s.setAnchor a ⟨.revoked, none, none⟩).completed c.code .done [byteAt c.block 0x00, 0x02]) ∧
      ∀ readBack : AnchorState, readBack ≠ .revoked →
        exec (.anchorRevokeComplete readBack) s = .next
          ((s.setAnchor a ⟨.defective, (s.anchor a).key, none⟩).completed c.code .done [byteAt c.block 0x00, 0x03]))

/-- READ_ANCHOR_STATE reports the states of the eight anchors and READ_LOCKS the four lock ranges, in index order,
whatever LOCK# is; neither changes any other state. -/
def Obligations.AnchorStatesAndLocksReported : Prop :=
  ∀ s : State, CommandReady s →
    exec .readAnchorState s = .next
      (s.answered 0x2A .done ((List.finRange 8).map fun a => anchorStateByte (s.anchor a).state)) ∧
    exec .readLocks s = .next
      (s.answered 0x32 .done ((List.finRange 4).map fun n =>
        match s.lockRange n with
        | some r => [0x01, if r.sticky then 0x01 else 0x00] ++ bytesOf 2 r.low.toNat ++ bytesOf 2 r.high.toNat
        | none => [0, 0, 0, 0, 0, 0]).flatten)

/-- SET_LOCK puts a range in use with the given tags and sticky flag, and CLEAR_LOCK makes a range unused; an index or
tags out of range give BAD_FIELD, and a sticky range in use refuses both. The width
of the reported index and the order of the report are the model's choice (assumptions 21, 31). -/
def Obligations.LockRangesSetAndCleared : Prop :=
  ∀ s : State, Unlocked s →
    (let low : Tag := wordAt s.commandBlock 0x02 2 16
     let high : Tag := wordAt s.commandBlock 0x04 2 16
     let inRange := (byteAt s.commandBlock 0x01 = 0 ∨ byteAt s.commandBlock 0x01 = 1) ∧ low ≠ 0 ∧ high ≠ 0 ∧ low ≤ high
     (∀ n : RangeNo, indexAt s.commandBlock 0x00 4 = some n →
       (let sticky := ∃ r, s.lockRange n = some r ∧ r.sticky = true
        (¬inRange → exec .setLock s = .next (s.answered 0x30 .badField [])) ∧
        (inRange → sticky → exec .setLock s = .next (s.answered 0x30 .sticky [])) ∧
        (inRange → ¬sticky → exec .setLock s = .next
          ((s.setLockRange n (some { low := low, high := high, sticky := byteAt s.commandBlock 0x01 = 1 })).answered
            0x30 .done ([BitVec.ofNat 8 n.val, 0x01, byteAt s.commandBlock 0x01]
              ++ bytesOf 2 low.toNat ++ bytesOf 2 high.toNat))) ∧
        (sticky → exec .clearLock s = .next (s.answered 0x31 .sticky [])) ∧
        (¬sticky → exec .clearLock s = .next
          ((s.setLockRange n none).answered 0x31 .done [BitVec.ofNat 8 n.val, 0, 0, 0, 0, 0, 0])))) ∧
     (indexAt s.commandBlock 0x00 4 = none →
       exec .setLock s = .next (s.answered 0x30 .badField []) ∧
       exec .clearLock s = .next (s.answered 0x31 .badField [])))

/-! ## The Register Window, lines and power -/

/-- A byte written to 05h clears the flags whose bits are 1, to 06h sets the mask from bits 0 to 3, to 10h to 6Fh
changes one byte of the Command Block, whatever the Command Unit does; any other location but Start ignores it. What
each location holds. A READ transaction takes its Result Block bytes from the block as it stood when the address byte was
taken and the low byte of the Attention Queue length with the high one, each other byte when its first bit is driven; with
nothing between its bits it returns what its locations hold. That the low byte is captured with each high byte, and that
one which comes first is shown as it stands, is the model's choice (assumption 36). -/
def Obligations.WindowBytesWritten : Prop :=
  (∀ (s : State) (b : Byte), s.power = .running →
    exec (.interruptFlagsWrite b) s = .next
      { s with
        commandDone := s.commandDone && !b.getLsbD 0
        startRefused := s.startRefused && !b.getLsbD 1
        laneDown := s.laneDown && !b.getLsbD 2 } ∧
    exec (.interruptMaskWrite b) s = .next
      { s with
        mask :=
          { commandDone := b.getLsbD 0, startRefused := b.getLsbD 1, laneDown := b.getLsbD 2
            attention := b.getLsbD 3 } } ∧
    (∀ i : Fin 96, exec (.registerWrite (BitVec.ofNat 8 (0x10 + i.val)) b) s = .next
      { s with commandBlock := s.commandBlock.set i b }) ∧
    ∀ addr : Byte, addr ≠ 0x05 → addr ≠ 0x06 → addr ≠ 0x70 → addr < 0x10 ∨ 0x6F < addr →
      exec (.registerWrite addr b) s = .next s) ∧
  (∀ s : State,
    windowByte 0x00 s = 0x4C ∧ windowByte 0x01 s = 0x01 ∧
    windowByte 0x02 s = (0 : BitVec 4) ++ BitVec.ofBool s.lockLine ++ BitVec.ofBool (decide (s.laneB.state = .online))
      ++ BitVec.ofBool (decide (s.laneA.state = .online)) ++ BitVec.ofBool (decide (s.unit ≠ .idle)) ∧
    (s.attention.length ≤ 256 → (windowByte 0x03 s).toNat * 256 + (windowByte 0x04 s).toNat = s.attention.length) ∧
    windowByte 0x05 s = (0 : BitVec 5) ++ BitVec.ofBool s.laneDown ++ BitVec.ofBool s.startRefused
      ++ BitVec.ofBool s.commandDone ∧
    windowByte 0x06 s = (0 : BitVec 4) ++ BitVec.ofBool s.mask.attention ++ BitVec.ofBool s.mask.laneDown
      ++ BitVec.ofBool s.mask.startRefused ++ BitVec.ofBool s.mask.commandDone ∧
    (∀ i : Fin 96, windowByte (BitVec.ofNat 8 (0x10 + i.val)) s = s.commandBlock[i] ∧
      windowByte (BitVec.ofNat 8 (0x80 + i.val)) s = s.resultBlock[i]) ∧
    ∀ addr : Byte, 0x06 < addr ∧ addr < 0x10 ∨ 0x6F < addr ∧ addr < 0x80 ∨ 0xDF < addr → windowByte addr s = 0) ∧
  (∀ (s : State) (sdi : Bool) (addr : Byte), s.power = .running → s.port = .deselected →
    s.lines (.csFall :: ((bytePins 0x5A ++ bytePins addr).dropLast)) =
      { s with port := .reading ⟨addr, s.resultBlock, none, [], none⟩ } ∧
    ∀ n : Nat, samples ((List.replicate (8 * n) [.sckRise sdi, .sckFall]).flatten)
        (s.lines (.csFall :: (bytePins 0x5A ++ bytePins addr))) =
      ((windowBytes addr n s).flatMap bitsOfByte).map some) ∧
  ∀ (s : State) (r : Reading), s.power = .running → s.port = .reading r →
    (∀ x, serialEvent (.sckRise x) s = s) ∧
    (∀ b rest, r.shift = b :: rest →
      serialEvent .sckFall s = { s with port := .reading ⟨r.addr, r.result, r.queueLow, rest, some b⟩ }) ∧
    (r.shift = [] → ∀ byte : Byte,
      (0x80 ≤ r.addr ∧ r.addr ≤ 0xDF ∧ byte = byteAt r.result (r.addr.toNat - 0x80) ∨
        (r.addr < 0x80 ∨ 0xDF < r.addr) ∧ (r.addr ≠ 0x04 ∨ r.queueLow = none) ∧ byte = windowByte r.addr s ∨
        r.addr = 0x04 ∧ r.queueLow = some byte) →
      serialEvent .sckFall s = { s with
        port := .reading ⟨r.addr + 1, r.result, if r.addr = 0x03 then some (windowByte 0x04 s) else none,
          (bitsOfByte byte).tail, some (byte.getLsbD 7)⟩ })

/-- ATTN# is driven low exactly while an enabled flag is set, or the Attention Queue is not empty and its enable is set;
it is released until start-up has ended. -/
def Obligations.AttnDrivenByEnabledCauses : Prop :=
  ∀ s : State, attnDriven s = true ↔ s.power = .running ∧
    (s.commandDone = true ∧ s.mask.commandDone = true ∨ s.startRefused = true ∧ s.mask.startRefused = true ∨
      s.laneDown = true ∧ s.mask.laneDown = true ∨ s.attention ≠ [] ∧ s.mask.attention = true)

/-- LOCK# takes its level and nothing else. RST# asserted, or power lost, returns every block to its power-on state but
the anchors with their open writes, and abandons a transaction; RST# released begins start-up, and its end closes an open
write: a programming one leaves the anchor DEFECTIVE, a revoke one PROGRAMMED with its key. A transaction begun before
start-up has ended is ignored until CS# rises. What the blocks hold while power is off, and RST# without power, are the
model's choice (assumption 15), and so is that an abandoned transaction's rest is ignored (assumption 34). -/
def Obligations.LinesAndPowerAct : Prop :=
  ∀ s : State,
    (∀ b, exec (.lockLineLevel b) s = .next { s with lockLine := b }) ∧
    (let initial := { State.reset with
       anchors := s.anchors, lockLine := s.lockLine, rstLine := s.rstLine, power := s.power
       port := s.port.abandoned, serial := s.serial, pending := s.pending }
     (s.power ≠ .off → exec .rstAssert s = .next { initial with rstLine := true, power := .startUp }) ∧
     (s.power = .off → exec .rstAssert s = .next { s with rstLine := true }) ∧
     exec .rstRelease s = .next { s with rstLine := false } ∧
     exec .powerLoss s = .next { initial with power := .off } ∧
     (s.power = .off → exec .powerOn s = .next { initial with power := .startUp })) ∧
    (s.power = .startUp → s.rstLine = false → ∃ t, exec .startupEnd s = .next t ∧
      t = { s with power := .running, anchors := t.anchors } ∧
      ∀ a : AnchorNo,
        ((s.anchor a).openWrite = none → t.anchor a = s.anchor a) ∧
        ((s.anchor a).openWrite = some .programming → (t.anchor a).state = .defective ∧ (t.anchor a).openWrite = none) ∧
        ((s.anchor a).openWrite = some .revoking → t.anchor a = { s.anchor a with openWrite := none })) ∧
    (s.port.abandoned = .deselected ↔ s.port = .deselected) ∧
    (s.port ≠ .deselected → s.port.abandoned = .ignoring) ∧
    (s.power ≠ .running → s.port = .deselected → serialEvent .csFall s = { s with port := .ignoring }) ∧
    (s.port = .ignoring → ∀ e : SerialEvent, sdo s = none ∧
      serialEvent e s = if e = .csRise then { s with port := .deselected } else s)

/-! ## Conditions -/

/-- A condition raised on a slot with no record creates one with its fields and ending NONE and puts the slot at the
tail of the Attention Queue; on a slot with a record the class joins, the overlap count rises to at most 15, a hold
stays, and every other field and the slot's place stand. On a FREE or LOADING slot nothing is raised (a test of the
model, read from R137's last sentence, assumption 28). An ending
replaces a less severe ending code of the slot's record, and is lost on a slot with no record. -/
def Obligations.RaiseCreatesOrMerges : Prop :=
  ∀ (r : Raise) (k : SlotNo) (s : State),
    (raisable s k = false → raiseOn r k s = s) ∧
    (raisable s k = true → s.cond k = none → raiseOn r k s =
      { s.setCond k (some
          { primary := r.cls, classes := condClassBit r.cls, overlap := 0, holding := r.hold, phase := r.phase
            lane := r.lane, seq := r.seq, group := r.group, reason := r.reason, ancillary := r.ancillary
            ending := .noEnding }) with
        attention := s.attention ++ [k] }) ∧
    (∀ c, raisable s k = true → s.cond k = some c → raiseOn r k s = s.setCond k (some
      { c with
        classes := c.classes ||| condClassBit r.cls
        overlap := if c.overlap < 15 then c.overlap + 1 else 15
        holding := c.holding || r.hold })) ∧
    ∀ e : Ending, (s.cond k = none → applyEnding e k s = s) ∧
      ∀ c : CondRecord, s.cond k = some c → applyEnding e k s = s.setCond k (some
        { c with ending := if severity c.ending < severity e then e else c.ending })

/-! ## What every step keeps -/

/-- Every step keeps the agreements between the blocks: Attention Queue and Condition Records, in-flight counts and LANE
entries, Tag Directory and Context Table, LOADING slot and Command Unit. -/
def Obligations.StepKeepsBlocksAgreeing : Prop :=
  ∀ s t : State, BlocksAgree s → step s = .next t → BlocksAgree t

/-- Every step keeps frames, entries and intake together: each PENDING entry's frame in STAGE or WORK of its lane, each
FINISHED one's in OUT, the frame being streamed in its STAGE. The job numbers that tell them to belong together are the
model's own (assumption 17). -/
def Obligations.StepKeepsFramesMatched : Prop :=
  ∀ s t : State, FramesMatch s → step s = .next t → FramesMatch t

/-- Every step keeps the ranges of the stored fields: contexts, DEFINED recipes, lock ranges, anchors and Condition
Records, at most 8 entries in the Return Queue, the bits of a transaction, and until start-up has ended the power-on
state of every block. -/
def Obligations.StepKeepsFieldsSound : Prop :=
  ∀ s t : State, BlocksAgree s →
    ContextsSound s ∧ RecipesSound s ∧ LocksSound s ∧ AnchorsSound s ∧ RecordsSound s ∧ QueueFits s ∧ HeldInReset s ∧
      s.port.Sound →
    step s = .next t →
    ContextsSound t ∧ RecipesSound t ∧ LocksSound t ∧ AnchorsSound t ∧ RecordsSound t ∧ QueueFits t ∧ HeldInReset t ∧
      t.port.Sound

/-- From step to step a context keeps its tag, generation, anchor, key width, salt and installed life; its watermark and
next sequence never fall, its life never rises, its spent and low-life flags stay set, and its state changes only as the
table of events allows. A REVOKED or DEFECTIVE anchor stays so; a sticky lock range stays until a hard reset. -/
def Obligations.LastingStateContinues : Prop :=
  ∀ s t : State, BlocksAgree s → ContextsSound s → AnchorsSound s → step s = .next t →
    (∀ (k : SlotNo) (c d : Context), s.slot k = some c → t.slot k = some d →
      c.Continues d ∧ c.state.mayBecome d.state = true) ∧
    (∀ a : AnchorNo, (s.anchor a).state = .revoked ∨ (s.anchor a).state = .defective → t.anchor a = s.anchor a) ∧
    ∀ (n : RangeNo) (r : LockRange), s.lockRange n = some r → r.sticky = true → t.power = .running →
      t.lockRange n = some r

/-- The Return Queue is first in, first out: a step takes at most the head away, at a RELEASE alone, and adds at most one
entry at the tail, the entries between keeping their order and what they stand for; or it is a reset, SOFT_RESET in any
spelling, RST# or a change of power, and none is left. -/
def Obligations.QueueKeepsJobHeaderOrder : Prop :=
  ∀ s t : State, step s = .next t →
    (t.queue = [] ∧
      ((∃ c ∈ [.softReset, .registerWrite 0x70 0x09, .startRefused 0x09, .badCommand 0x09, .rstAssert, .powerLoss,
          .powerOn], ∃ rest, s.pending = c :: rest) ∨
        s.pending = [] ∧ ∃ x rest bits, s.serial = .sckRise x :: rest ∧ s.port = .writing 0x70 bits ∧
          byteOfBits (bits ++ [x]) = 0x09)) ∨
    ∃ n kept new, n ≤ 1 ∧ t.queue = kept ++ new ∧ new.length ≤ 1 ∧
      (n = 1 → ∃ ds dr rest, s.pending = .release ds dr :: rest) ∧
      List.Forall₂ Entry.Continues (s.queue.drop n) kept
end

