-- ==== Sys2Proof/Laws/State.lean ====
section
/-! SUPPORT. What each update of the state leaves: one lemma per field per named update, and what each accessor reads
after it. -/

namespace Sys2Proof.Machine

/-! ## setSlot, updateSlot -/
@[simp] theorem setSlot_dir (s : State) (k : SlotNo) (c : Option Context) : (s.setSlot k c).dir = s.dir := rfl
@[simp] theorem setSlot_recipes (s : State) (k : SlotNo) (c : Option Context) : (s.setSlot k c).recipes = s.recipes := rfl
@[simp] theorem setSlot_intake (s : State) (k : SlotNo) (c : Option Context) : (s.setSlot k c).intake = s.intake := rfl
@[simp] theorem setSlot_lastLane (s : State) (k : SlotNo) (c : Option Context) : (s.setSlot k c).lastLane = s.lastLane := rfl
@[simp] theorem setSlot_laneA (s : State) (k : SlotNo) (c : Option Context) : (s.setSlot k c).laneA = s.laneA := rfl
@[simp] theorem setSlot_laneB (s : State) (k : SlotNo) (c : Option Context) : (s.setSlot k c).laneB = s.laneB := rfl
@[simp] theorem setSlot_queue (s : State) (k : SlotNo) (c : Option Context) : (s.setSlot k c).queue = s.queue := rfl
@[simp] theorem setSlot_sending (s : State) (k : SlotNo) (c : Option Context) : (s.setSlot k c).sending = s.sending := rfl
@[simp] theorem setSlot_conds (s : State) (k : SlotNo) (c : Option Context) : (s.setSlot k c).conds = s.conds := rfl
@[simp] theorem setSlot_attention (s : State) (k : SlotNo) (c : Option Context) : (s.setSlot k c).attention = s.attention := rfl
@[simp] theorem setSlot_unit (s : State) (k : SlotNo) (c : Option Context) : (s.setSlot k c).unit = s.unit := rfl
@[simp] theorem setSlot_copy (s : State) (k : SlotNo) (c : Option Context) : (s.setSlot k c).copy = s.copy := rfl
@[simp] theorem setSlot_commandBlock (s : State) (k : SlotNo) (c : Option Context) : (s.setSlot k c).commandBlock = s.commandBlock := rfl
@[simp] theorem setSlot_resultBlock (s : State) (k : SlotNo) (c : Option Context) : (s.setSlot k c).resultBlock = s.resultBlock := rfl
@[simp] theorem setSlot_anchors (s : State) (k : SlotNo) (c : Option Context) : (s.setSlot k c).anchors = s.anchors := rfl
@[simp] theorem setSlot_locks (s : State) (k : SlotNo) (c : Option Context) : (s.setSlot k c).locks = s.locks := rfl
@[simp] theorem setSlot_commandDone (s : State) (k : SlotNo) (c : Option Context) : (s.setSlot k c).commandDone = s.commandDone := rfl
@[simp] theorem setSlot_startRefused (s : State) (k : SlotNo) (c : Option Context) : (s.setSlot k c).startRefused = s.startRefused := rfl
@[simp] theorem setSlot_laneDown (s : State) (k : SlotNo) (c : Option Context) : (s.setSlot k c).laneDown = s.laneDown := rfl
@[simp] theorem setSlot_mask (s : State) (k : SlotNo) (c : Option Context) : (s.setSlot k c).mask = s.mask := rfl
@[simp] theorem setSlot_lockLine (s : State) (k : SlotNo) (c : Option Context) : (s.setSlot k c).lockLine = s.lockLine := rfl
@[simp] theorem setSlot_rstLine (s : State) (k : SlotNo) (c : Option Context) : (s.setSlot k c).rstLine = s.rstLine := rfl
@[simp] theorem setSlot_power (s : State) (k : SlotNo) (c : Option Context) : (s.setSlot k c).power = s.power := rfl
@[simp] theorem setSlot_port (s : State) (k : SlotNo) (c : Option Context) : (s.setSlot k c).port = s.port := rfl
@[simp] theorem setSlot_nextJob (s : State) (k : SlotNo) (c : Option Context) : (s.setSlot k c).nextJob = s.nextJob := rfl
@[simp] theorem setSlot_serial (s : State) (k : SlotNo) (c : Option Context) : (s.setSlot k c).serial = s.serial := rfl
@[simp] theorem setSlot_pending (s : State) (k : SlotNo) (c : Option Context) : (s.setSlot k c).pending = s.pending := rfl
@[simp] theorem updateSlot_dir (s : State) (k : SlotNo) (f : Context → Context) : (s.updateSlot k f).dir = s.dir := rfl
@[simp] theorem updateSlot_recipes (s : State) (k : SlotNo) (f : Context → Context) : (s.updateSlot k f).recipes = s.recipes := rfl
@[simp] theorem updateSlot_intake (s : State) (k : SlotNo) (f : Context → Context) : (s.updateSlot k f).intake = s.intake := rfl
@[simp] theorem updateSlot_lastLane (s : State) (k : SlotNo) (f : Context → Context) : (s.updateSlot k f).lastLane = s.lastLane := rfl
@[simp] theorem updateSlot_laneA (s : State) (k : SlotNo) (f : Context → Context) : (s.updateSlot k f).laneA = s.laneA := rfl
@[simp] theorem updateSlot_laneB (s : State) (k : SlotNo) (f : Context → Context) : (s.updateSlot k f).laneB = s.laneB := rfl
@[simp] theorem updateSlot_queue (s : State) (k : SlotNo) (f : Context → Context) : (s.updateSlot k f).queue = s.queue := rfl
@[simp] theorem updateSlot_sending (s : State) (k : SlotNo) (f : Context → Context) : (s.updateSlot k f).sending = s.sending := rfl
@[simp] theorem updateSlot_conds (s : State) (k : SlotNo) (f : Context → Context) : (s.updateSlot k f).conds = s.conds := rfl
@[simp] theorem updateSlot_attention (s : State) (k : SlotNo) (f : Context → Context) : (s.updateSlot k f).attention = s.attention := rfl
@[simp] theorem updateSlot_unit (s : State) (k : SlotNo) (f : Context → Context) : (s.updateSlot k f).unit = s.unit := rfl
@[simp] theorem updateSlot_copy (s : State) (k : SlotNo) (f : Context → Context) : (s.updateSlot k f).copy = s.copy := rfl
@[simp] theorem updateSlot_commandBlock (s : State) (k : SlotNo) (f : Context → Context) : (s.updateSlot k f).commandBlock = s.commandBlock := rfl
@[simp] theorem updateSlot_resultBlock (s : State) (k : SlotNo) (f : Context → Context) : (s.updateSlot k f).resultBlock = s.resultBlock := rfl
@[simp] theorem updateSlot_anchors (s : State) (k : SlotNo) (f : Context → Context) : (s.updateSlot k f).anchors = s.anchors := rfl
@[simp] theorem updateSlot_locks (s : State) (k : SlotNo) (f : Context → Context) : (s.updateSlot k f).locks = s.locks := rfl
@[simp] theorem updateSlot_commandDone (s : State) (k : SlotNo) (f : Context → Context) : (s.updateSlot k f).commandDone = s.commandDone := rfl
@[simp] theorem updateSlot_startRefused (s : State) (k : SlotNo) (f : Context → Context) : (s.updateSlot k f).startRefused = s.startRefused := rfl
@[simp] theorem updateSlot_laneDown (s : State) (k : SlotNo) (f : Context → Context) : (s.updateSlot k f).laneDown = s.laneDown := rfl
@[simp] theorem updateSlot_mask (s : State) (k : SlotNo) (f : Context → Context) : (s.updateSlot k f).mask = s.mask := rfl
@[simp] theorem updateSlot_lockLine (s : State) (k : SlotNo) (f : Context → Context) : (s.updateSlot k f).lockLine = s.lockLine := rfl
@[simp] theorem updateSlot_rstLine (s : State) (k : SlotNo) (f : Context → Context) : (s.updateSlot k f).rstLine = s.rstLine := rfl
@[simp] theorem updateSlot_power (s : State) (k : SlotNo) (f : Context → Context) : (s.updateSlot k f).power = s.power := rfl
@[simp] theorem updateSlot_port (s : State) (k : SlotNo) (f : Context → Context) : (s.updateSlot k f).port = s.port := rfl
@[simp] theorem updateSlot_nextJob (s : State) (k : SlotNo) (f : Context → Context) : (s.updateSlot k f).nextJob = s.nextJob := rfl
@[simp] theorem updateSlot_serial (s : State) (k : SlotNo) (f : Context → Context) : (s.updateSlot k f).serial = s.serial := rfl
@[simp] theorem updateSlot_pending (s : State) (k : SlotNo) (f : Context → Context) : (s.updateSlot k f).pending = s.pending := rfl

/-! ## setCond, setRecipe, setAnchor, setLockRange, setEntry -/
@[simp] theorem setCond_slots (s : State) (k : SlotNo) (r : Option CondRecord) : (s.setCond k r).slots = s.slots := rfl
@[simp] theorem setCond_dir (s : State) (k : SlotNo) (r : Option CondRecord) : (s.setCond k r).dir = s.dir := rfl
@[simp] theorem setCond_recipes (s : State) (k : SlotNo) (r : Option CondRecord) : (s.setCond k r).recipes = s.recipes := rfl
@[simp] theorem setCond_intake (s : State) (k : SlotNo) (r : Option CondRecord) : (s.setCond k r).intake = s.intake := rfl
@[simp] theorem setCond_lastLane (s : State) (k : SlotNo) (r : Option CondRecord) : (s.setCond k r).lastLane = s.lastLane := rfl
@[simp] theorem setCond_laneA (s : State) (k : SlotNo) (r : Option CondRecord) : (s.setCond k r).laneA = s.laneA := rfl
@[simp] theorem setCond_laneB (s : State) (k : SlotNo) (r : Option CondRecord) : (s.setCond k r).laneB = s.laneB := rfl
@[simp] theorem setCond_queue (s : State) (k : SlotNo) (r : Option CondRecord) : (s.setCond k r).queue = s.queue := rfl
@[simp] theorem setCond_sending (s : State) (k : SlotNo) (r : Option CondRecord) : (s.setCond k r).sending = s.sending := rfl
@[simp] theorem setCond_attention (s : State) (k : SlotNo) (r : Option CondRecord) : (s.setCond k r).attention = s.attention := rfl
@[simp] theorem setCond_unit (s : State) (k : SlotNo) (r : Option CondRecord) : (s.setCond k r).unit = s.unit := rfl
@[simp] theorem setCond_copy (s : State) (k : SlotNo) (r : Option CondRecord) : (s.setCond k r).copy = s.copy := rfl
@[simp] theorem setCond_commandBlock (s : State) (k : SlotNo) (r : Option CondRecord) : (s.setCond k r).commandBlock = s.commandBlock := rfl
@[simp] theorem setCond_resultBlock (s : State) (k : SlotNo) (r : Option CondRecord) : (s.setCond k r).resultBlock = s.resultBlock := rfl
@[simp] theorem setCond_anchors (s : State) (k : SlotNo) (r : Option CondRecord) : (s.setCond k r).anchors = s.anchors := rfl
@[simp] theorem setCond_locks (s : State) (k : SlotNo) (r : Option CondRecord) : (s.setCond k r).locks = s.locks := rfl
@[simp] theorem setCond_commandDone (s : State) (k : SlotNo) (r : Option CondRecord) : (s.setCond k r).commandDone = s.commandDone := rfl
@[simp] theorem setCond_startRefused (s : State) (k : SlotNo) (r : Option CondRecord) : (s.setCond k r).startRefused = s.startRefused := rfl
@[simp] theorem setCond_laneDown (s : State) (k : SlotNo) (r : Option CondRecord) : (s.setCond k r).laneDown = s.laneDown := rfl
@[simp] theorem setCond_mask (s : State) (k : SlotNo) (r : Option CondRecord) : (s.setCond k r).mask = s.mask := rfl
@[simp] theorem setCond_lockLine (s : State) (k : SlotNo) (r : Option CondRecord) : (s.setCond k r).lockLine = s.lockLine := rfl
@[simp] theorem setCond_rstLine (s : State) (k : SlotNo) (r : Option CondRecord) : (s.setCond k r).rstLine = s.rstLine := rfl
@[simp] theorem setCond_power (s : State) (k : SlotNo) (r : Option CondRecord) : (s.setCond k r).power = s.power := rfl
@[simp] theorem setCond_port (s : State) (k : SlotNo) (r : Option CondRecord) : (s.setCond k r).port = s.port := rfl
@[simp] theorem setCond_nextJob (s : State) (k : SlotNo) (r : Option CondRecord) : (s.setCond k r).nextJob = s.nextJob := rfl
@[simp] theorem setCond_serial (s : State) (k : SlotNo) (r : Option CondRecord) : (s.setCond k r).serial = s.serial := rfl
@[simp] theorem setCond_pending (s : State) (k : SlotNo) (r : Option CondRecord) : (s.setCond k r).pending = s.pending := rfl
@[simp] theorem setRecipe_slots (s : State) (n : RecipeNo) (r : Recipe) : (s.setRecipe n r).slots = s.slots := rfl
@[simp] theorem setRecipe_dir (s : State) (n : RecipeNo) (r : Recipe) : (s.setRecipe n r).dir = s.dir := rfl
@[simp] theorem setRecipe_intake (s : State) (n : RecipeNo) (r : Recipe) : (s.setRecipe n r).intake = s.intake := rfl
@[simp] theorem setRecipe_lastLane (s : State) (n : RecipeNo) (r : Recipe) : (s.setRecipe n r).lastLane = s.lastLane := rfl
@[simp] theorem setRecipe_laneA (s : State) (n : RecipeNo) (r : Recipe) : (s.setRecipe n r).laneA = s.laneA := rfl
@[simp] theorem setRecipe_laneB (s : State) (n : RecipeNo) (r : Recipe) : (s.setRecipe n r).laneB = s.laneB := rfl
@[simp] theorem setRecipe_queue (s : State) (n : RecipeNo) (r : Recipe) : (s.setRecipe n r).queue = s.queue := rfl
@[simp] theorem setRecipe_sending (s : State) (n : RecipeNo) (r : Recipe) : (s.setRecipe n r).sending = s.sending := rfl
@[simp] theorem setRecipe_conds (s : State) (n : RecipeNo) (r : Recipe) : (s.setRecipe n r).conds = s.conds := rfl
@[simp] theorem setRecipe_attention (s : State) (n : RecipeNo) (r : Recipe) : (s.setRecipe n r).attention = s.attention := rfl
@[simp] theorem setRecipe_unit (s : State) (n : RecipeNo) (r : Recipe) : (s.setRecipe n r).unit = s.unit := rfl
@[simp] theorem setRecipe_copy (s : State) (n : RecipeNo) (r : Recipe) : (s.setRecipe n r).copy = s.copy := rfl
@[simp] theorem setRecipe_commandBlock (s : State) (n : RecipeNo) (r : Recipe) : (s.setRecipe n r).commandBlock = s.commandBlock := rfl
@[simp] theorem setRecipe_resultBlock (s : State) (n : RecipeNo) (r : Recipe) : (s.setRecipe n r).resultBlock = s.resultBlock := rfl
@[simp] theorem setRecipe_anchors (s : State) (n : RecipeNo) (r : Recipe) : (s.setRecipe n r).anchors = s.anchors := rfl
@[simp] theorem setRecipe_locks (s : State) (n : RecipeNo) (r : Recipe) : (s.setRecipe n r).locks = s.locks := rfl
@[simp] theorem setRecipe_commandDone (s : State) (n : RecipeNo) (r : Recipe) : (s.setRecipe n r).commandDone = s.commandDone := rfl
@[simp] theorem setRecipe_startRefused (s : State) (n : RecipeNo) (r : Recipe) : (s.setRecipe n r).startRefused = s.startRefused := rfl
@[simp] theorem setRecipe_laneDown (s : State) (n : RecipeNo) (r : Recipe) : (s.setRecipe n r).laneDown = s.laneDown := rfl
@[simp] theorem setRecipe_mask (s : State) (n : RecipeNo) (r : Recipe) : (s.setRecipe n r).mask = s.mask := rfl
@[simp] theorem setRecipe_lockLine (s : State) (n : RecipeNo) (r : Recipe) : (s.setRecipe n r).lockLine = s.lockLine := rfl
@[simp] theorem setRecipe_rstLine (s : State) (n : RecipeNo) (r : Recipe) : (s.setRecipe n r).rstLine = s.rstLine := rfl
@[simp] theorem setRecipe_power (s : State) (n : RecipeNo) (r : Recipe) : (s.setRecipe n r).power = s.power := rfl
@[simp] theorem setRecipe_port (s : State) (n : RecipeNo) (r : Recipe) : (s.setRecipe n r).port = s.port := rfl
@[simp] theorem setRecipe_nextJob (s : State) (n : RecipeNo) (r : Recipe) : (s.setRecipe n r).nextJob = s.nextJob := rfl
@[simp] theorem setRecipe_serial (s : State) (n : RecipeNo) (r : Recipe) : (s.setRecipe n r).serial = s.serial := rfl
@[simp] theorem setRecipe_pending (s : State) (n : RecipeNo) (r : Recipe) : (s.setRecipe n r).pending = s.pending := rfl
@[simp] theorem setAnchor_slots (s : State) (a : AnchorNo) (x : Anchor) : (s.setAnchor a x).slots = s.slots := rfl
@[simp] theorem setAnchor_dir (s : State) (a : AnchorNo) (x : Anchor) : (s.setAnchor a x).dir = s.dir := rfl
@[simp] theorem setAnchor_recipes (s : State) (a : AnchorNo) (x : Anchor) : (s.setAnchor a x).recipes = s.recipes := rfl
@[simp] theorem setAnchor_intake (s : State) (a : AnchorNo) (x : Anchor) : (s.setAnchor a x).intake = s.intake := rfl
@[simp] theorem setAnchor_lastLane (s : State) (a : AnchorNo) (x : Anchor) : (s.setAnchor a x).lastLane = s.lastLane := rfl
@[simp] theorem setAnchor_laneA (s : State) (a : AnchorNo) (x : Anchor) : (s.setAnchor a x).laneA = s.laneA := rfl
@[simp] theorem setAnchor_laneB (s : State) (a : AnchorNo) (x : Anchor) : (s.setAnchor a x).laneB = s.laneB := rfl
@[simp] theorem setAnchor_queue (s : State) (a : AnchorNo) (x : Anchor) : (s.setAnchor a x).queue = s.queue := rfl
@[simp] theorem setAnchor_sending (s : State) (a : AnchorNo) (x : Anchor) : (s.setAnchor a x).sending = s.sending := rfl
@[simp] theorem setAnchor_conds (s : State) (a : AnchorNo) (x : Anchor) : (s.setAnchor a x).conds = s.conds := rfl
@[simp] theorem setAnchor_attention (s : State) (a : AnchorNo) (x : Anchor) : (s.setAnchor a x).attention = s.attention := rfl
@[simp] theorem setAnchor_unit (s : State) (a : AnchorNo) (x : Anchor) : (s.setAnchor a x).unit = s.unit := rfl
@[simp] theorem setAnchor_copy (s : State) (a : AnchorNo) (x : Anchor) : (s.setAnchor a x).copy = s.copy := rfl
@[simp] theorem setAnchor_commandBlock (s : State) (a : AnchorNo) (x : Anchor) : (s.setAnchor a x).commandBlock = s.commandBlock := rfl
@[simp] theorem setAnchor_resultBlock (s : State) (a : AnchorNo) (x : Anchor) : (s.setAnchor a x).resultBlock = s.resultBlock := rfl
@[simp] theorem setAnchor_locks (s : State) (a : AnchorNo) (x : Anchor) : (s.setAnchor a x).locks = s.locks := rfl
@[simp] theorem setAnchor_commandDone (s : State) (a : AnchorNo) (x : Anchor) : (s.setAnchor a x).commandDone = s.commandDone := rfl
@[simp] theorem setAnchor_startRefused (s : State) (a : AnchorNo) (x : Anchor) : (s.setAnchor a x).startRefused = s.startRefused := rfl
@[simp] theorem setAnchor_laneDown (s : State) (a : AnchorNo) (x : Anchor) : (s.setAnchor a x).laneDown = s.laneDown := rfl
@[simp] theorem setAnchor_mask (s : State) (a : AnchorNo) (x : Anchor) : (s.setAnchor a x).mask = s.mask := rfl
@[simp] theorem setAnchor_lockLine (s : State) (a : AnchorNo) (x : Anchor) : (s.setAnchor a x).lockLine = s.lockLine := rfl
@[simp] theorem setAnchor_rstLine (s : State) (a : AnchorNo) (x : Anchor) : (s.setAnchor a x).rstLine = s.rstLine := rfl
@[simp] theorem setAnchor_power (s : State) (a : AnchorNo) (x : Anchor) : (s.setAnchor a x).power = s.power := rfl
@[simp] theorem setAnchor_port (s : State) (a : AnchorNo) (x : Anchor) : (s.setAnchor a x).port = s.port := rfl
@[simp] theorem setAnchor_nextJob (s : State) (a : AnchorNo) (x : Anchor) : (s.setAnchor a x).nextJob = s.nextJob := rfl
@[simp] theorem setAnchor_serial (s : State) (a : AnchorNo) (x : Anchor) : (s.setAnchor a x).serial = s.serial := rfl
@[simp] theorem setAnchor_pending (s : State) (a : AnchorNo) (x : Anchor) : (s.setAnchor a x).pending = s.pending := rfl
@[simp] theorem setLockRange_slots (s : State) (n : RangeNo) (r : Option LockRange) : (s.setLockRange n r).slots = s.slots := rfl
@[simp] theorem setLockRange_dir (s : State) (n : RangeNo) (r : Option LockRange) : (s.setLockRange n r).dir = s.dir := rfl
@[simp] theorem setLockRange_recipes (s : State) (n : RangeNo) (r : Option LockRange) : (s.setLockRange n r).recipes = s.recipes := rfl
@[simp] theorem setLockRange_intake (s : State) (n : RangeNo) (r : Option LockRange) : (s.setLockRange n r).intake = s.intake := rfl
@[simp] theorem setLockRange_lastLane (s : State) (n : RangeNo) (r : Option LockRange) : (s.setLockRange n r).lastLane = s.lastLane := rfl
@[simp] theorem setLockRange_laneA (s : State) (n : RangeNo) (r : Option LockRange) : (s.setLockRange n r).laneA = s.laneA := rfl
@[simp] theorem setLockRange_laneB (s : State) (n : RangeNo) (r : Option LockRange) : (s.setLockRange n r).laneB = s.laneB := rfl
@[simp] theorem setLockRange_queue (s : State) (n : RangeNo) (r : Option LockRange) : (s.setLockRange n r).queue = s.queue := rfl
@[simp] theorem setLockRange_sending (s : State) (n : RangeNo) (r : Option LockRange) : (s.setLockRange n r).sending = s.sending := rfl
@[simp] theorem setLockRange_conds (s : State) (n : RangeNo) (r : Option LockRange) : (s.setLockRange n r).conds = s.conds := rfl
@[simp] theorem setLockRange_attention (s : State) (n : RangeNo) (r : Option LockRange) : (s.setLockRange n r).attention = s.attention := rfl
@[simp] theorem setLockRange_unit (s : State) (n : RangeNo) (r : Option LockRange) : (s.setLockRange n r).unit = s.unit := rfl
@[simp] theorem setLockRange_copy (s : State) (n : RangeNo) (r : Option LockRange) : (s.setLockRange n r).copy = s.copy := rfl
@[simp] theorem setLockRange_commandBlock (s : State) (n : RangeNo) (r : Option LockRange) : (s.setLockRange n r).commandBlock = s.commandBlock := rfl
@[simp] theorem setLockRange_resultBlock (s : State) (n : RangeNo) (r : Option LockRange) : (s.setLockRange n r).resultBlock = s.resultBlock := rfl
@[simp] theorem setLockRange_anchors (s : State) (n : RangeNo) (r : Option LockRange) : (s.setLockRange n r).anchors = s.anchors := rfl
@[simp] theorem setLockRange_commandDone (s : State) (n : RangeNo) (r : Option LockRange) : (s.setLockRange n r).commandDone = s.commandDone := rfl
@[simp] theorem setLockRange_startRefused (s : State) (n : RangeNo) (r : Option LockRange) : (s.setLockRange n r).startRefused = s.startRefused := rfl
@[simp] theorem setLockRange_laneDown (s : State) (n : RangeNo) (r : Option LockRange) : (s.setLockRange n r).laneDown = s.laneDown := rfl
@[simp] theorem setLockRange_mask (s : State) (n : RangeNo) (r : Option LockRange) : (s.setLockRange n r).mask = s.mask := rfl
@[simp] theorem setLockRange_lockLine (s : State) (n : RangeNo) (r : Option LockRange) : (s.setLockRange n r).lockLine = s.lockLine := rfl
@[simp] theorem setLockRange_rstLine (s : State) (n : RangeNo) (r : Option LockRange) : (s.setLockRange n r).rstLine = s.rstLine := rfl
@[simp] theorem setLockRange_power (s : State) (n : RangeNo) (r : Option LockRange) : (s.setLockRange n r).power = s.power := rfl
@[simp] theorem setLockRange_port (s : State) (n : RangeNo) (r : Option LockRange) : (s.setLockRange n r).port = s.port := rfl
@[simp] theorem setLockRange_nextJob (s : State) (n : RangeNo) (r : Option LockRange) : (s.setLockRange n r).nextJob = s.nextJob := rfl
@[simp] theorem setLockRange_serial (s : State) (n : RangeNo) (r : Option LockRange) : (s.setLockRange n r).serial = s.serial := rfl
@[simp] theorem setLockRange_pending (s : State) (n : RangeNo) (r : Option LockRange) : (s.setLockRange n r).pending = s.pending := rfl
@[simp] theorem setEntry_slots (s : State) (t : Tag) (e : DirEntry) : (s.setEntry t e).slots = s.slots := rfl
@[simp] theorem setEntry_recipes (s : State) (t : Tag) (e : DirEntry) : (s.setEntry t e).recipes = s.recipes := rfl
@[simp] theorem setEntry_intake (s : State) (t : Tag) (e : DirEntry) : (s.setEntry t e).intake = s.intake := rfl
@[simp] theorem setEntry_lastLane (s : State) (t : Tag) (e : DirEntry) : (s.setEntry t e).lastLane = s.lastLane := rfl
@[simp] theorem setEntry_laneA (s : State) (t : Tag) (e : DirEntry) : (s.setEntry t e).laneA = s.laneA := rfl
@[simp] theorem setEntry_laneB (s : State) (t : Tag) (e : DirEntry) : (s.setEntry t e).laneB = s.laneB := rfl
@[simp] theorem setEntry_queue (s : State) (t : Tag) (e : DirEntry) : (s.setEntry t e).queue = s.queue := rfl
@[simp] theorem setEntry_sending (s : State) (t : Tag) (e : DirEntry) : (s.setEntry t e).sending = s.sending := rfl
@[simp] theorem setEntry_conds (s : State) (t : Tag) (e : DirEntry) : (s.setEntry t e).conds = s.conds := rfl
@[simp] theorem setEntry_attention (s : State) (t : Tag) (e : DirEntry) : (s.setEntry t e).attention = s.attention := rfl
@[simp] theorem setEntry_unit (s : State) (t : Tag) (e : DirEntry) : (s.setEntry t e).unit = s.unit := rfl
@[simp] theorem setEntry_copy (s : State) (t : Tag) (e : DirEntry) : (s.setEntry t e).copy = s.copy := rfl
@[simp] theorem setEntry_commandBlock (s : State) (t : Tag) (e : DirEntry) : (s.setEntry t e).commandBlock = s.commandBlock := rfl
@[simp] theorem setEntry_resultBlock (s : State) (t : Tag) (e : DirEntry) : (s.setEntry t e).resultBlock = s.resultBlock := rfl
@[simp] theorem setEntry_anchors (s : State) (t : Tag) (e : DirEntry) : (s.setEntry t e).anchors = s.anchors := rfl
@[simp] theorem setEntry_locks (s : State) (t : Tag) (e : DirEntry) : (s.setEntry t e).locks = s.locks := rfl
@[simp] theorem setEntry_commandDone (s : State) (t : Tag) (e : DirEntry) : (s.setEntry t e).commandDone = s.commandDone := rfl
@[simp] theorem setEntry_startRefused (s : State) (t : Tag) (e : DirEntry) : (s.setEntry t e).startRefused = s.startRefused := rfl
@[simp] theorem setEntry_laneDown (s : State) (t : Tag) (e : DirEntry) : (s.setEntry t e).laneDown = s.laneDown := rfl
@[simp] theorem setEntry_mask (s : State) (t : Tag) (e : DirEntry) : (s.setEntry t e).mask = s.mask := rfl
@[simp] theorem setEntry_lockLine (s : State) (t : Tag) (e : DirEntry) : (s.setEntry t e).lockLine = s.lockLine := rfl
@[simp] theorem setEntry_rstLine (s : State) (t : Tag) (e : DirEntry) : (s.setEntry t e).rstLine = s.rstLine := rfl
@[simp] theorem setEntry_power (s : State) (t : Tag) (e : DirEntry) : (s.setEntry t e).power = s.power := rfl
@[simp] theorem setEntry_port (s : State) (t : Tag) (e : DirEntry) : (s.setEntry t e).port = s.port := rfl
@[simp] theorem setEntry_nextJob (s : State) (t : Tag) (e : DirEntry) : (s.setEntry t e).nextJob = s.nextJob := rfl
@[simp] theorem setEntry_serial (s : State) (t : Tag) (e : DirEntry) : (s.setEntry t e).serial = s.serial := rfl
@[simp] theorem setEntry_pending (s : State) (t : Tag) (e : DirEntry) : (s.setEntry t e).pending = s.pending := rfl

/-! ## setLane -/
@[simp] theorem setLane_slots (s : State) (l : LaneId) (x : Lane) : (s.setLane l x).slots = s.slots := by cases l <;> rfl
@[simp] theorem setLane_dir (s : State) (l : LaneId) (x : Lane) : (s.setLane l x).dir = s.dir := by cases l <;> rfl
@[simp] theorem setLane_recipes (s : State) (l : LaneId) (x : Lane) : (s.setLane l x).recipes = s.recipes := by cases l <;> rfl
@[simp] theorem setLane_intake (s : State) (l : LaneId) (x : Lane) : (s.setLane l x).intake = s.intake := by cases l <;> rfl
@[simp] theorem setLane_lastLane (s : State) (l : LaneId) (x : Lane) : (s.setLane l x).lastLane = s.lastLane := by cases l <;> rfl
@[simp] theorem setLane_queue (s : State) (l : LaneId) (x : Lane) : (s.setLane l x).queue = s.queue := by cases l <;> rfl
@[simp] theorem setLane_sending (s : State) (l : LaneId) (x : Lane) : (s.setLane l x).sending = s.sending := by cases l <;> rfl
@[simp] theorem setLane_conds (s : State) (l : LaneId) (x : Lane) : (s.setLane l x).conds = s.conds := by cases l <;> rfl
@[simp] theorem setLane_attention (s : State) (l : LaneId) (x : Lane) : (s.setLane l x).attention = s.attention := by cases l <;> rfl
@[simp] theorem setLane_unit (s : State) (l : LaneId) (x : Lane) : (s.setLane l x).unit = s.unit := by cases l <;> rfl
@[simp] theorem setLane_copy (s : State) (l : LaneId) (x : Lane) : (s.setLane l x).copy = s.copy := by cases l <;> rfl
@[simp] theorem setLane_commandBlock (s : State) (l : LaneId) (x : Lane) : (s.setLane l x).commandBlock = s.commandBlock := by cases l <;> rfl
@[simp] theorem setLane_resultBlock (s : State) (l : LaneId) (x : Lane) : (s.setLane l x).resultBlock = s.resultBlock := by cases l <;> rfl
@[simp] theorem setLane_anchors (s : State) (l : LaneId) (x : Lane) : (s.setLane l x).anchors = s.anchors := by cases l <;> rfl
@[simp] theorem setLane_locks (s : State) (l : LaneId) (x : Lane) : (s.setLane l x).locks = s.locks := by cases l <;> rfl
@[simp] theorem setLane_commandDone (s : State) (l : LaneId) (x : Lane) : (s.setLane l x).commandDone = s.commandDone := by cases l <;> rfl
@[simp] theorem setLane_startRefused (s : State) (l : LaneId) (x : Lane) : (s.setLane l x).startRefused = s.startRefused := by cases l <;> rfl
@[simp] theorem setLane_laneDown (s : State) (l : LaneId) (x : Lane) : (s.setLane l x).laneDown = s.laneDown := by cases l <;> rfl
@[simp] theorem setLane_mask (s : State) (l : LaneId) (x : Lane) : (s.setLane l x).mask = s.mask := by cases l <;> rfl
@[simp] theorem setLane_lockLine (s : State) (l : LaneId) (x : Lane) : (s.setLane l x).lockLine = s.lockLine := by cases l <;> rfl
@[simp] theorem setLane_rstLine (s : State) (l : LaneId) (x : Lane) : (s.setLane l x).rstLine = s.rstLine := by cases l <;> rfl
@[simp] theorem setLane_power (s : State) (l : LaneId) (x : Lane) : (s.setLane l x).power = s.power := by cases l <;> rfl
@[simp] theorem setLane_port (s : State) (l : LaneId) (x : Lane) : (s.setLane l x).port = s.port := by cases l <;> rfl
@[simp] theorem setLane_nextJob (s : State) (l : LaneId) (x : Lane) : (s.setLane l x).nextJob = s.nextJob := by cases l <;> rfl
@[simp] theorem setLane_serial (s : State) (l : LaneId) (x : Lane) : (s.setLane l x).serial = s.serial := by cases l <;> rfl
@[simp] theorem setLane_pending (s : State) (l : LaneId) (x : Lane) : (s.setLane l x).pending = s.pending := by cases l <;> rfl

/-! ## What is read after an update -/

theorem slot_setSlot (s : State) (k j : SlotNo) (c : Option Context) :
    (s.setSlot k c).slot j = if k = j then c else s.slot j := by
  by_cases h : k = j
  · subst h; simp [State.slot, State.setSlot]
  · have : k.val ≠ j.val := fun e => h (Fin.ext e)
    simp [State.slot, State.setSlot, h, this]

@[simp] theorem slot_setSlot_self (s : State) (k : SlotNo) (c : Option Context) : (s.setSlot k c).slot k = c := by
  simp [slot_setSlot]

theorem slot_setSlot_ne (s : State) {k j : SlotNo} (h : k ≠ j) (c : Option Context) :
    (s.setSlot k c).slot j = s.slot j := by simp [slot_setSlot, h]

theorem slot_updateSlot (s : State) (k j : SlotNo) (f : Context → Context) :
    (s.updateSlot k f).slot j = if k = j then (s.slot k).map f else s.slot j := slot_setSlot s k j _

@[simp] theorem slot_updateSlot_self (s : State) (k : SlotNo) (f : Context → Context) :
    (s.updateSlot k f).slot k = (s.slot k).map f := slot_setSlot_self s k _

theorem slot_updateSlot_ne (s : State) {k j : SlotNo} (h : k ≠ j) (f : Context → Context) :
    (s.updateSlot k f).slot j = s.slot j := slot_setSlot_ne s h _

theorem cond_setCond (s : State) (k j : SlotNo) (r : Option CondRecord) :
    (s.setCond k r).cond j = if k = j then r else s.cond j := by
  by_cases h : k = j
  · subst h; simp [State.cond, State.setCond]
  · have : k.val ≠ j.val := fun e => h (Fin.ext e)
    simp [State.cond, State.setCond, h, this]

@[simp] theorem cond_setCond_self (s : State) (k : SlotNo) (r : Option CondRecord) : (s.setCond k r).cond k = r := by
  simp [cond_setCond]

theorem recipe_setRecipe (s : State) (m n : RecipeNo) (r : Recipe) :
    (s.setRecipe m r).recipe n = if m = n then r else s.recipe n := by
  by_cases h : m = n
  · subst h; simp [State.recipe, State.setRecipe]
  · have : m.val ≠ n.val := fun e => h (Fin.ext e)
    simp [State.recipe, State.setRecipe, h, this]

theorem anchor_setAnchor (s : State) (a b : AnchorNo) (x : Anchor) :
    (s.setAnchor a x).anchor b = if a = b then x else s.anchor b := by
  by_cases h : a = b
  · subst h; simp [State.anchor, State.setAnchor]
  · have : a.val ≠ b.val := fun e => h (Fin.ext e)
    simp [State.anchor, State.setAnchor, h, this]

theorem lockRange_setLockRange (s : State) (m n : RangeNo) (r : Option LockRange) :
    (s.setLockRange m r).lockRange n = if m = n then r else s.lockRange n := by
  by_cases h : m = n
  · subst h; simp [State.lockRange, State.setLockRange]
  · have : m.val ≠ n.val := fun e => h (Fin.ext e)
    simp [State.lockRange, State.setLockRange, h, this]

@[simp] theorem lane_setLane_self (s : State) (l : LaneId) (x : Lane) : (s.setLane l x).lane l = x := by cases l <;> rfl

theorem lane_setLane_ne (s : State) {l m : LaneId} (h : l ≠ m) (x : Lane) : (s.setLane l x).lane m = s.lane m := by
  cases l <;> cases m <;> first | rfl | exact absurd rfl h

theorem lane_setLane (s : State) (l m : LaneId) (x : Lane) :
    (s.setLane l x).lane m = if l = m then x else s.lane m := by cases l <;> cases m <;> rfl

/-! ## Accessors through the updates of other blocks -/

@[simp] theorem cond_setSlot (s : State) (k : SlotNo) (c : Option Context) (i : SlotNo) : (s.setSlot k c).cond i = s.cond i := rfl
@[simp] theorem recipe_setSlot (s : State) (k : SlotNo) (c : Option Context) (i : RecipeNo) : (s.setSlot k c).recipe i = s.recipe i := rfl
@[simp] theorem anchor_setSlot (s : State) (k : SlotNo) (c : Option Context) (i : AnchorNo) : (s.setSlot k c).anchor i = s.anchor i := rfl
@[simp] theorem lockRange_setSlot (s : State) (k : SlotNo) (c : Option Context) (i : RangeNo) : (s.setSlot k c).lockRange i = s.lockRange i := rfl
@[simp] theorem lane_setSlot (s : State) (k : SlotNo) (c : Option Context) (i : LaneId) : (s.setSlot k c).lane i = s.lane i := by cases i <;> rfl
@[simp] theorem entry_setSlot (s : State) (k : SlotNo) (c : Option Context) (i : Tag) : (s.setSlot k c).entry i = s.entry i := rfl
@[simp] theorem cond_updateSlot (s : State) (k : SlotNo) (f : Context → Context) (i : SlotNo) : (s.updateSlot k f).cond i = s.cond i := rfl
@[simp] theorem recipe_updateSlot (s : State) (k : SlotNo) (f : Context → Context) (i : RecipeNo) : (s.updateSlot k f).recipe i = s.recipe i := rfl
@[simp] theorem anchor_updateSlot (s : State) (k : SlotNo) (f : Context → Context) (i : AnchorNo) : (s.updateSlot k f).anchor i = s.anchor i := rfl
@[simp] theorem lockRange_updateSlot (s : State) (k : SlotNo) (f : Context → Context) (i : RangeNo) : (s.updateSlot k f).lockRange i = s.lockRange i := rfl
@[simp] theorem lane_updateSlot (s : State) (k : SlotNo) (f : Context → Context) (i : LaneId) : (s.updateSlot k f).lane i = s.lane i := by cases i <;> rfl
@[simp] theorem entry_updateSlot (s : State) (k : SlotNo) (f : Context → Context) (i : Tag) : (s.updateSlot k f).entry i = s.entry i := rfl
@[simp] theorem slot_setCond (s : State) (k : SlotNo) (r : Option CondRecord) (i : SlotNo) : (s.setCond k r).slot i = s.slot i := rfl
@[simp] theorem recipe_setCond (s : State) (k : SlotNo) (r : Option CondRecord) (i : RecipeNo) : (s.setCond k r).recipe i = s.recipe i := rfl
@[simp] theorem anchor_setCond (s : State) (k : SlotNo) (r : Option CondRecord) (i : AnchorNo) : (s.setCond k r).anchor i = s.anchor i := rfl
@[simp] theorem lockRange_setCond (s : State) (k : SlotNo) (r : Option CondRecord) (i : RangeNo) : (s.setCond k r).lockRange i = s.lockRange i := rfl
@[simp] theorem lane_setCond (s : State) (k : SlotNo) (r : Option CondRecord) (i : LaneId) : (s.setCond k r).lane i = s.lane i := by cases i <;> rfl
@[simp] theorem entry_setCond (s : State) (k : SlotNo) (r : Option CondRecord) (i : Tag) : (s.setCond k r).entry i = s.entry i := rfl
@[simp] theorem slot_setRecipe (s : State) (n : RecipeNo) (r : Recipe) (i : SlotNo) : (s.setRecipe n r).slot i = s.slot i := rfl
@[simp] theorem cond_setRecipe (s : State) (n : RecipeNo) (r : Recipe) (i : SlotNo) : (s.setRecipe n r).cond i = s.cond i := rfl
@[simp] theorem anchor_setRecipe (s : State) (n : RecipeNo) (r : Recipe) (i : AnchorNo) : (s.setRecipe n r).anchor i = s.anchor i := rfl
@[simp] theorem lockRange_setRecipe (s : State) (n : RecipeNo) (r : Recipe) (i : RangeNo) : (s.setRecipe n r).lockRange i = s.lockRange i := rfl
@[simp] theorem lane_setRecipe (s : State) (n : RecipeNo) (r : Recipe) (i : LaneId) : (s.setRecipe n r).lane i = s.lane i := by cases i <;> rfl
@[simp] theorem entry_setRecipe (s : State) (n : RecipeNo) (r : Recipe) (i : Tag) : (s.setRecipe n r).entry i = s.entry i := rfl
@[simp] theorem slot_setAnchor (s : State) (a : AnchorNo) (x : Anchor) (i : SlotNo) : (s.setAnchor a x).slot i = s.slot i := rfl
@[simp] theorem cond_setAnchor (s : State) (a : AnchorNo) (x : Anchor) (i : SlotNo) : (s.setAnchor a x).cond i = s.cond i := rfl
@[simp] theorem recipe_setAnchor (s : State) (a : AnchorNo) (x : Anchor) (i : RecipeNo) : (s.setAnchor a x).recipe i = s.recipe i := rfl
@[simp] theorem lockRange_setAnchor (s : State) (a : AnchorNo) (x : Anchor) (i : RangeNo) : (s.setAnchor a x).lockRange i = s.lockRange i := rfl
@[simp] theorem lane_setAnchor (s : State) (a : AnchorNo) (x : Anchor) (i : LaneId) : (s.setAnchor a x).lane i = s.lane i := by cases i <;> rfl
@[simp] theorem entry_setAnchor (s : State) (a : AnchorNo) (x : Anchor) (i : Tag) : (s.setAnchor a x).entry i = s.entry i := rfl
@[simp] theorem slot_setLockRange (s : State) (n : RangeNo) (r : Option LockRange) (i : SlotNo) : (s.setLockRange n r).slot i = s.slot i := rfl
@[simp] theorem cond_setLockRange (s : State) (n : RangeNo) (r : Option LockRange) (i : SlotNo) : (s.setLockRange n r).cond i = s.cond i := rfl
@[simp] theorem recipe_setLockRange (s : State) (n : RangeNo) (r : Option LockRange) (i : RecipeNo) : (s.setLockRange n r).recipe i = s.recipe i := rfl
@[simp] theorem anchor_setLockRange (s : State) (n : RangeNo) (r : Option LockRange) (i : AnchorNo) : (s.setLockRange n r).anchor i = s.anchor i := rfl
@[simp] theorem lane_setLockRange (s : State) (n : RangeNo) (r : Option LockRange) (i : LaneId) : (s.setLockRange n r).lane i = s.lane i := by cases i <;> rfl
@[simp] theorem entry_setLockRange (s : State) (n : RangeNo) (r : Option LockRange) (i : Tag) : (s.setLockRange n r).entry i = s.entry i := rfl
@[simp] theorem slot_setEntry (s : State) (t : Tag) (e : DirEntry) (i : SlotNo) : (s.setEntry t e).slot i = s.slot i := rfl
@[simp] theorem cond_setEntry (s : State) (t : Tag) (e : DirEntry) (i : SlotNo) : (s.setEntry t e).cond i = s.cond i := rfl
@[simp] theorem recipe_setEntry (s : State) (t : Tag) (e : DirEntry) (i : RecipeNo) : (s.setEntry t e).recipe i = s.recipe i := rfl
@[simp] theorem anchor_setEntry (s : State) (t : Tag) (e : DirEntry) (i : AnchorNo) : (s.setEntry t e).anchor i = s.anchor i := rfl
@[simp] theorem lockRange_setEntry (s : State) (t : Tag) (e : DirEntry) (i : RangeNo) : (s.setEntry t e).lockRange i = s.lockRange i := rfl
@[simp] theorem lane_setEntry (s : State) (t : Tag) (e : DirEntry) (i : LaneId) : (s.setEntry t e).lane i = s.lane i := by cases i <;> rfl
@[simp] theorem slot_setLane (s : State) (l : LaneId) (x : Lane) (i : SlotNo) : (s.setLane l x).slot i = s.slot i := by cases l <;> rfl
@[simp] theorem cond_setLane (s : State) (l : LaneId) (x : Lane) (i : SlotNo) : (s.setLane l x).cond i = s.cond i := by cases l <;> rfl
@[simp] theorem recipe_setLane (s : State) (l : LaneId) (x : Lane) (i : RecipeNo) : (s.setLane l x).recipe i = s.recipe i := by cases l <;> rfl
@[simp] theorem anchor_setLane (s : State) (l : LaneId) (x : Lane) (i : AnchorNo) : (s.setLane l x).anchor i = s.anchor i := by cases l <;> rfl
@[simp] theorem lockRange_setLane (s : State) (l : LaneId) (x : Lane) (i : RangeNo) : (s.setLane l x).lockRange i = s.lockRange i := by cases l <;> rfl
@[simp] theorem entry_setLane (s : State) (l : LaneId) (x : Lane) (i : Tag) : (s.setLane l x).entry i = s.entry i := by cases l <;> rfl

end Sys2Proof.Machine
end

