-- ==== Sys2Proof/Laws/Frames.lean ====
section
/-! SUPPORT. What each shared operation touches: its frame in one equation, and the untouched fields one by one. -/

namespace Sys2Proof.Machine

/-- A raise touches the Condition Records and the Attention Queue (R138, R139). -/
theorem raiseOn_frame (r : Raise) (k : SlotNo) (s : State) :
    raiseOn r k s = { s with
      conds := (raiseOn r k s).conds
      attention := (raiseOn r k s).attention } := by
  unfold raiseOn; split <;> [split <;> rfl; rfl]

@[simp] theorem raiseOn_slots (r : Raise) (k : SlotNo) (s : State) :
    (raiseOn r k s).slots = s.slots := by rw [raiseOn_frame]
@[simp] theorem raiseOn_dir (r : Raise) (k : SlotNo) (s : State) :
    (raiseOn r k s).dir = s.dir := by rw [raiseOn_frame]
@[simp] theorem raiseOn_recipes (r : Raise) (k : SlotNo) (s : State) :
    (raiseOn r k s).recipes = s.recipes := by rw [raiseOn_frame]
@[simp] theorem raiseOn_intake (r : Raise) (k : SlotNo) (s : State) :
    (raiseOn r k s).intake = s.intake := by rw [raiseOn_frame]
@[simp] theorem raiseOn_lastLane (r : Raise) (k : SlotNo) (s : State) :
    (raiseOn r k s).lastLane = s.lastLane := by rw [raiseOn_frame]
@[simp] theorem raiseOn_laneA (r : Raise) (k : SlotNo) (s : State) :
    (raiseOn r k s).laneA = s.laneA := by rw [raiseOn_frame]
@[simp] theorem raiseOn_laneB (r : Raise) (k : SlotNo) (s : State) :
    (raiseOn r k s).laneB = s.laneB := by rw [raiseOn_frame]
@[simp] theorem raiseOn_queue (r : Raise) (k : SlotNo) (s : State) :
    (raiseOn r k s).queue = s.queue := by rw [raiseOn_frame]
@[simp] theorem raiseOn_sending (r : Raise) (k : SlotNo) (s : State) :
    (raiseOn r k s).sending = s.sending := by rw [raiseOn_frame]
@[simp] theorem raiseOn_unit (r : Raise) (k : SlotNo) (s : State) :
    (raiseOn r k s).unit = s.unit := by rw [raiseOn_frame]
@[simp] theorem raiseOn_copy (r : Raise) (k : SlotNo) (s : State) :
    (raiseOn r k s).copy = s.copy := by rw [raiseOn_frame]
@[simp] theorem raiseOn_commandBlock (r : Raise) (k : SlotNo) (s : State) :
    (raiseOn r k s).commandBlock = s.commandBlock := by rw [raiseOn_frame]
@[simp] theorem raiseOn_resultBlock (r : Raise) (k : SlotNo) (s : State) :
    (raiseOn r k s).resultBlock = s.resultBlock := by rw [raiseOn_frame]
@[simp] theorem raiseOn_anchors (r : Raise) (k : SlotNo) (s : State) :
    (raiseOn r k s).anchors = s.anchors := by rw [raiseOn_frame]
@[simp] theorem raiseOn_locks (r : Raise) (k : SlotNo) (s : State) :
    (raiseOn r k s).locks = s.locks := by rw [raiseOn_frame]
@[simp] theorem raiseOn_commandDone (r : Raise) (k : SlotNo) (s : State) :
    (raiseOn r k s).commandDone = s.commandDone := by rw [raiseOn_frame]
@[simp] theorem raiseOn_startRefused (r : Raise) (k : SlotNo) (s : State) :
    (raiseOn r k s).startRefused = s.startRefused := by rw [raiseOn_frame]
@[simp] theorem raiseOn_laneDown (r : Raise) (k : SlotNo) (s : State) :
    (raiseOn r k s).laneDown = s.laneDown := by rw [raiseOn_frame]
@[simp] theorem raiseOn_mask (r : Raise) (k : SlotNo) (s : State) :
    (raiseOn r k s).mask = s.mask := by rw [raiseOn_frame]
@[simp] theorem raiseOn_lockLine (r : Raise) (k : SlotNo) (s : State) :
    (raiseOn r k s).lockLine = s.lockLine := by rw [raiseOn_frame]
@[simp] theorem raiseOn_rstLine (r : Raise) (k : SlotNo) (s : State) :
    (raiseOn r k s).rstLine = s.rstLine := by rw [raiseOn_frame]
@[simp] theorem raiseOn_power (r : Raise) (k : SlotNo) (s : State) :
    (raiseOn r k s).power = s.power := by rw [raiseOn_frame]
@[simp] theorem raiseOn_port (r : Raise) (k : SlotNo) (s : State) :
    (raiseOn r k s).port = s.port := by rw [raiseOn_frame]
@[simp] theorem raiseOn_nextJob (r : Raise) (k : SlotNo) (s : State) :
    (raiseOn r k s).nextJob = s.nextJob := by rw [raiseOn_frame]
@[simp] theorem raiseOn_serial (r : Raise) (k : SlotNo) (s : State) :
    (raiseOn r k s).serial = s.serial := by rw [raiseOn_frame]
@[simp] theorem raiseOn_pending (r : Raise) (k : SlotNo) (s : State) :
    (raiseOn r k s).pending = s.pending := by rw [raiseOn_frame]

/-- So does a raise on a slot there may not be. -/
theorem raiseOnSome_frame (r : Raise) (k : Option SlotNo) (s : State) :
    raiseOnSome r k s = { s with
      conds := (raiseOnSome r k s).conds
      attention := (raiseOnSome r k s).attention } := by
  cases k; · rfl
  · exact raiseOn_frame r _ s

@[simp] theorem raiseOnSome_slots (r : Raise) (k : Option SlotNo) (s : State) :
    (raiseOnSome r k s).slots = s.slots := by rw [raiseOnSome_frame]
@[simp] theorem raiseOnSome_dir (r : Raise) (k : Option SlotNo) (s : State) :
    (raiseOnSome r k s).dir = s.dir := by rw [raiseOnSome_frame]
@[simp] theorem raiseOnSome_recipes (r : Raise) (k : Option SlotNo) (s : State) :
    (raiseOnSome r k s).recipes = s.recipes := by rw [raiseOnSome_frame]
@[simp] theorem raiseOnSome_intake (r : Raise) (k : Option SlotNo) (s : State) :
    (raiseOnSome r k s).intake = s.intake := by rw [raiseOnSome_frame]
@[simp] theorem raiseOnSome_lastLane (r : Raise) (k : Option SlotNo) (s : State) :
    (raiseOnSome r k s).lastLane = s.lastLane := by rw [raiseOnSome_frame]
@[simp] theorem raiseOnSome_laneA (r : Raise) (k : Option SlotNo) (s : State) :
    (raiseOnSome r k s).laneA = s.laneA := by rw [raiseOnSome_frame]
@[simp] theorem raiseOnSome_laneB (r : Raise) (k : Option SlotNo) (s : State) :
    (raiseOnSome r k s).laneB = s.laneB := by rw [raiseOnSome_frame]
@[simp] theorem raiseOnSome_queue (r : Raise) (k : Option SlotNo) (s : State) :
    (raiseOnSome r k s).queue = s.queue := by rw [raiseOnSome_frame]
@[simp] theorem raiseOnSome_sending (r : Raise) (k : Option SlotNo) (s : State) :
    (raiseOnSome r k s).sending = s.sending := by rw [raiseOnSome_frame]
@[simp] theorem raiseOnSome_unit (r : Raise) (k : Option SlotNo) (s : State) :
    (raiseOnSome r k s).unit = s.unit := by rw [raiseOnSome_frame]
@[simp] theorem raiseOnSome_copy (r : Raise) (k : Option SlotNo) (s : State) :
    (raiseOnSome r k s).copy = s.copy := by rw [raiseOnSome_frame]
@[simp] theorem raiseOnSome_commandBlock (r : Raise) (k : Option SlotNo) (s : State) :
    (raiseOnSome r k s).commandBlock = s.commandBlock := by rw [raiseOnSome_frame]
@[simp] theorem raiseOnSome_resultBlock (r : Raise) (k : Option SlotNo) (s : State) :
    (raiseOnSome r k s).resultBlock = s.resultBlock := by rw [raiseOnSome_frame]
@[simp] theorem raiseOnSome_anchors (r : Raise) (k : Option SlotNo) (s : State) :
    (raiseOnSome r k s).anchors = s.anchors := by rw [raiseOnSome_frame]
@[simp] theorem raiseOnSome_locks (r : Raise) (k : Option SlotNo) (s : State) :
    (raiseOnSome r k s).locks = s.locks := by rw [raiseOnSome_frame]
@[simp] theorem raiseOnSome_commandDone (r : Raise) (k : Option SlotNo) (s : State) :
    (raiseOnSome r k s).commandDone = s.commandDone := by rw [raiseOnSome_frame]
@[simp] theorem raiseOnSome_startRefused (r : Raise) (k : Option SlotNo) (s : State) :
    (raiseOnSome r k s).startRefused = s.startRefused := by rw [raiseOnSome_frame]
@[simp] theorem raiseOnSome_laneDown (r : Raise) (k : Option SlotNo) (s : State) :
    (raiseOnSome r k s).laneDown = s.laneDown := by rw [raiseOnSome_frame]
@[simp] theorem raiseOnSome_mask (r : Raise) (k : Option SlotNo) (s : State) :
    (raiseOnSome r k s).mask = s.mask := by rw [raiseOnSome_frame]
@[simp] theorem raiseOnSome_lockLine (r : Raise) (k : Option SlotNo) (s : State) :
    (raiseOnSome r k s).lockLine = s.lockLine := by rw [raiseOnSome_frame]
@[simp] theorem raiseOnSome_rstLine (r : Raise) (k : Option SlotNo) (s : State) :
    (raiseOnSome r k s).rstLine = s.rstLine := by rw [raiseOnSome_frame]
@[simp] theorem raiseOnSome_power (r : Raise) (k : Option SlotNo) (s : State) :
    (raiseOnSome r k s).power = s.power := by rw [raiseOnSome_frame]
@[simp] theorem raiseOnSome_port (r : Raise) (k : Option SlotNo) (s : State) :
    (raiseOnSome r k s).port = s.port := by rw [raiseOnSome_frame]
@[simp] theorem raiseOnSome_nextJob (r : Raise) (k : Option SlotNo) (s : State) :
    (raiseOnSome r k s).nextJob = s.nextJob := by rw [raiseOnSome_frame]
@[simp] theorem raiseOnSome_serial (r : Raise) (k : Option SlotNo) (s : State) :
    (raiseOnSome r k s).serial = s.serial := by rw [raiseOnSome_frame]
@[simp] theorem raiseOnSome_pending (r : Raise) (k : Option SlotNo) (s : State) :
    (raiseOnSome r k s).pending = s.pending := by rw [raiseOnSome_frame]

/-- An ending touches the Condition Records (R141). -/
theorem applyEnding_frame (e : Ending) (k : SlotNo) (s : State) :
    applyEnding e k s = { s with
      conds := (applyEnding e k s).conds } := by
  rfl

@[simp] theorem applyEnding_slots (e : Ending) (k : SlotNo) (s : State) :
    (applyEnding e k s).slots = s.slots := by rw [applyEnding_frame]
@[simp] theorem applyEnding_dir (e : Ending) (k : SlotNo) (s : State) :
    (applyEnding e k s).dir = s.dir := by rw [applyEnding_frame]
@[simp] theorem applyEnding_recipes (e : Ending) (k : SlotNo) (s : State) :
    (applyEnding e k s).recipes = s.recipes := by rw [applyEnding_frame]
@[simp] theorem applyEnding_intake (e : Ending) (k : SlotNo) (s : State) :
    (applyEnding e k s).intake = s.intake := by rw [applyEnding_frame]
@[simp] theorem applyEnding_lastLane (e : Ending) (k : SlotNo) (s : State) :
    (applyEnding e k s).lastLane = s.lastLane := by rw [applyEnding_frame]
@[simp] theorem applyEnding_laneA (e : Ending) (k : SlotNo) (s : State) :
    (applyEnding e k s).laneA = s.laneA := by rw [applyEnding_frame]
@[simp] theorem applyEnding_laneB (e : Ending) (k : SlotNo) (s : State) :
    (applyEnding e k s).laneB = s.laneB := by rw [applyEnding_frame]
@[simp] theorem applyEnding_queue (e : Ending) (k : SlotNo) (s : State) :
    (applyEnding e k s).queue = s.queue := by rw [applyEnding_frame]
@[simp] theorem applyEnding_sending (e : Ending) (k : SlotNo) (s : State) :
    (applyEnding e k s).sending = s.sending := by rw [applyEnding_frame]
@[simp] theorem applyEnding_attention (e : Ending) (k : SlotNo) (s : State) :
    (applyEnding e k s).attention = s.attention := by rw [applyEnding_frame]
@[simp] theorem applyEnding_unit (e : Ending) (k : SlotNo) (s : State) :
    (applyEnding e k s).unit = s.unit := by rw [applyEnding_frame]
@[simp] theorem applyEnding_copy (e : Ending) (k : SlotNo) (s : State) :
    (applyEnding e k s).copy = s.copy := by rw [applyEnding_frame]
@[simp] theorem applyEnding_commandBlock (e : Ending) (k : SlotNo) (s : State) :
    (applyEnding e k s).commandBlock = s.commandBlock := by rw [applyEnding_frame]
@[simp] theorem applyEnding_resultBlock (e : Ending) (k : SlotNo) (s : State) :
    (applyEnding e k s).resultBlock = s.resultBlock := by rw [applyEnding_frame]
@[simp] theorem applyEnding_anchors (e : Ending) (k : SlotNo) (s : State) :
    (applyEnding e k s).anchors = s.anchors := by rw [applyEnding_frame]
@[simp] theorem applyEnding_locks (e : Ending) (k : SlotNo) (s : State) :
    (applyEnding e k s).locks = s.locks := by rw [applyEnding_frame]
@[simp] theorem applyEnding_commandDone (e : Ending) (k : SlotNo) (s : State) :
    (applyEnding e k s).commandDone = s.commandDone := by rw [applyEnding_frame]
@[simp] theorem applyEnding_startRefused (e : Ending) (k : SlotNo) (s : State) :
    (applyEnding e k s).startRefused = s.startRefused := by rw [applyEnding_frame]
@[simp] theorem applyEnding_laneDown (e : Ending) (k : SlotNo) (s : State) :
    (applyEnding e k s).laneDown = s.laneDown := by rw [applyEnding_frame]
@[simp] theorem applyEnding_mask (e : Ending) (k : SlotNo) (s : State) :
    (applyEnding e k s).mask = s.mask := by rw [applyEnding_frame]
@[simp] theorem applyEnding_lockLine (e : Ending) (k : SlotNo) (s : State) :
    (applyEnding e k s).lockLine = s.lockLine := by rw [applyEnding_frame]
@[simp] theorem applyEnding_rstLine (e : Ending) (k : SlotNo) (s : State) :
    (applyEnding e k s).rstLine = s.rstLine := by rw [applyEnding_frame]
@[simp] theorem applyEnding_power (e : Ending) (k : SlotNo) (s : State) :
    (applyEnding e k s).power = s.power := by rw [applyEnding_frame]
@[simp] theorem applyEnding_port (e : Ending) (k : SlotNo) (s : State) :
    (applyEnding e k s).port = s.port := by rw [applyEnding_frame]
@[simp] theorem applyEnding_nextJob (e : Ending) (k : SlotNo) (s : State) :
    (applyEnding e k s).nextJob = s.nextJob := by rw [applyEnding_frame]
@[simp] theorem applyEnding_serial (e : Ending) (k : SlotNo) (s : State) :
    (applyEnding e k s).serial = s.serial := by rw [applyEnding_frame]
@[simp] theorem applyEnding_pending (e : Ending) (k : SlotNo) (s : State) :
    (applyEnding e k s).pending = s.pending := by rw [applyEnding_frame]

/-- Deleting a record touches the Condition Records and the Attention Queue (R144). -/
theorem deleteCond_frame (k : SlotNo) (s : State) :
    deleteCond k s = { s with
      conds := (deleteCond k s).conds
      attention := (deleteCond k s).attention } := by
  rfl

@[simp] theorem deleteCond_slots (k : SlotNo) (s : State) :
    (deleteCond k s).slots = s.slots := by rw [deleteCond_frame]
@[simp] theorem deleteCond_dir (k : SlotNo) (s : State) :
    (deleteCond k s).dir = s.dir := by rw [deleteCond_frame]
@[simp] theorem deleteCond_recipes (k : SlotNo) (s : State) :
    (deleteCond k s).recipes = s.recipes := by rw [deleteCond_frame]
@[simp] theorem deleteCond_intake (k : SlotNo) (s : State) :
    (deleteCond k s).intake = s.intake := by rw [deleteCond_frame]
@[simp] theorem deleteCond_lastLane (k : SlotNo) (s : State) :
    (deleteCond k s).lastLane = s.lastLane := by rw [deleteCond_frame]
@[simp] theorem deleteCond_laneA (k : SlotNo) (s : State) :
    (deleteCond k s).laneA = s.laneA := by rw [deleteCond_frame]
@[simp] theorem deleteCond_laneB (k : SlotNo) (s : State) :
    (deleteCond k s).laneB = s.laneB := by rw [deleteCond_frame]
@[simp] theorem deleteCond_queue (k : SlotNo) (s : State) :
    (deleteCond k s).queue = s.queue := by rw [deleteCond_frame]
@[simp] theorem deleteCond_sending (k : SlotNo) (s : State) :
    (deleteCond k s).sending = s.sending := by rw [deleteCond_frame]
@[simp] theorem deleteCond_unit (k : SlotNo) (s : State) :
    (deleteCond k s).unit = s.unit := by rw [deleteCond_frame]
@[simp] theorem deleteCond_copy (k : SlotNo) (s : State) :
    (deleteCond k s).copy = s.copy := by rw [deleteCond_frame]
@[simp] theorem deleteCond_commandBlock (k : SlotNo) (s : State) :
    (deleteCond k s).commandBlock = s.commandBlock := by rw [deleteCond_frame]
@[simp] theorem deleteCond_resultBlock (k : SlotNo) (s : State) :
    (deleteCond k s).resultBlock = s.resultBlock := by rw [deleteCond_frame]
@[simp] theorem deleteCond_anchors (k : SlotNo) (s : State) :
    (deleteCond k s).anchors = s.anchors := by rw [deleteCond_frame]
@[simp] theorem deleteCond_locks (k : SlotNo) (s : State) :
    (deleteCond k s).locks = s.locks := by rw [deleteCond_frame]
@[simp] theorem deleteCond_commandDone (k : SlotNo) (s : State) :
    (deleteCond k s).commandDone = s.commandDone := by rw [deleteCond_frame]
@[simp] theorem deleteCond_startRefused (k : SlotNo) (s : State) :
    (deleteCond k s).startRefused = s.startRefused := by rw [deleteCond_frame]
@[simp] theorem deleteCond_laneDown (k : SlotNo) (s : State) :
    (deleteCond k s).laneDown = s.laneDown := by rw [deleteCond_frame]
@[simp] theorem deleteCond_mask (k : SlotNo) (s : State) :
    (deleteCond k s).mask = s.mask := by rw [deleteCond_frame]
@[simp] theorem deleteCond_lockLine (k : SlotNo) (s : State) :
    (deleteCond k s).lockLine = s.lockLine := by rw [deleteCond_frame]
@[simp] theorem deleteCond_rstLine (k : SlotNo) (s : State) :
    (deleteCond k s).rstLine = s.rstLine := by rw [deleteCond_frame]
@[simp] theorem deleteCond_power (k : SlotNo) (s : State) :
    (deleteCond k s).power = s.power := by rw [deleteCond_frame]
@[simp] theorem deleteCond_port (k : SlotNo) (s : State) :
    (deleteCond k s).port = s.port := by rw [deleteCond_frame]
@[simp] theorem deleteCond_nextJob (k : SlotNo) (s : State) :
    (deleteCond k s).nextJob = s.nextJob := by rw [deleteCond_frame]
@[simp] theorem deleteCond_serial (k : SlotNo) (s : State) :
    (deleteCond k s).serial = s.serial := by rw [deleteCond_frame]
@[simp] theorem deleteCond_pending (k : SlotNo) (s : State) :
    (deleteCond k s).pending = s.pending := by rw [deleteCond_frame]

/-- Entry to FREE touches the slot, its record and the Attention Queue (R5). -/
theorem freeSlot_frame (k : SlotNo) (s : State) :
    freeSlot k s = { s with
      slots := (freeSlot k s).slots
      conds := (freeSlot k s).conds
      attention := (freeSlot k s).attention } := by
  rfl

@[simp] theorem freeSlot_dir (k : SlotNo) (s : State) :
    (freeSlot k s).dir = s.dir := by rw [freeSlot_frame]
@[simp] theorem freeSlot_recipes (k : SlotNo) (s : State) :
    (freeSlot k s).recipes = s.recipes := by rw [freeSlot_frame]
@[simp] theorem freeSlot_intake (k : SlotNo) (s : State) :
    (freeSlot k s).intake = s.intake := by rw [freeSlot_frame]
@[simp] theorem freeSlot_lastLane (k : SlotNo) (s : State) :
    (freeSlot k s).lastLane = s.lastLane := by rw [freeSlot_frame]
@[simp] theorem freeSlot_laneA (k : SlotNo) (s : State) :
    (freeSlot k s).laneA = s.laneA := by rw [freeSlot_frame]
@[simp] theorem freeSlot_laneB (k : SlotNo) (s : State) :
    (freeSlot k s).laneB = s.laneB := by rw [freeSlot_frame]
@[simp] theorem freeSlot_queue (k : SlotNo) (s : State) :
    (freeSlot k s).queue = s.queue := by rw [freeSlot_frame]
@[simp] theorem freeSlot_sending (k : SlotNo) (s : State) :
    (freeSlot k s).sending = s.sending := by rw [freeSlot_frame]
@[simp] theorem freeSlot_unit (k : SlotNo) (s : State) :
    (freeSlot k s).unit = s.unit := by rw [freeSlot_frame]
@[simp] theorem freeSlot_copy (k : SlotNo) (s : State) :
    (freeSlot k s).copy = s.copy := by rw [freeSlot_frame]
@[simp] theorem freeSlot_commandBlock (k : SlotNo) (s : State) :
    (freeSlot k s).commandBlock = s.commandBlock := by rw [freeSlot_frame]
@[simp] theorem freeSlot_resultBlock (k : SlotNo) (s : State) :
    (freeSlot k s).resultBlock = s.resultBlock := by rw [freeSlot_frame]
@[simp] theorem freeSlot_anchors (k : SlotNo) (s : State) :
    (freeSlot k s).anchors = s.anchors := by rw [freeSlot_frame]
@[simp] theorem freeSlot_locks (k : SlotNo) (s : State) :
    (freeSlot k s).locks = s.locks := by rw [freeSlot_frame]
@[simp] theorem freeSlot_commandDone (k : SlotNo) (s : State) :
    (freeSlot k s).commandDone = s.commandDone := by rw [freeSlot_frame]
@[simp] theorem freeSlot_startRefused (k : SlotNo) (s : State) :
    (freeSlot k s).startRefused = s.startRefused := by rw [freeSlot_frame]
@[simp] theorem freeSlot_laneDown (k : SlotNo) (s : State) :
    (freeSlot k s).laneDown = s.laneDown := by rw [freeSlot_frame]
@[simp] theorem freeSlot_mask (k : SlotNo) (s : State) :
    (freeSlot k s).mask = s.mask := by rw [freeSlot_frame]
@[simp] theorem freeSlot_lockLine (k : SlotNo) (s : State) :
    (freeSlot k s).lockLine = s.lockLine := by rw [freeSlot_frame]
@[simp] theorem freeSlot_rstLine (k : SlotNo) (s : State) :
    (freeSlot k s).rstLine = s.rstLine := by rw [freeSlot_frame]
@[simp] theorem freeSlot_power (k : SlotNo) (s : State) :
    (freeSlot k s).power = s.power := by rw [freeSlot_frame]
@[simp] theorem freeSlot_port (k : SlotNo) (s : State) :
    (freeSlot k s).port = s.port := by rw [freeSlot_frame]
@[simp] theorem freeSlot_nextJob (k : SlotNo) (s : State) :
    (freeSlot k s).nextJob = s.nextJob := by rw [freeSlot_frame]
@[simp] theorem freeSlot_serial (k : SlotNo) (s : State) :
    (freeSlot k s).serial = s.serial := by rw [freeSlot_frame]
@[simp] theorem freeSlot_pending (k : SlotNo) (s : State) :
    (freeSlot k s).pending = s.pending := by rw [freeSlot_frame]

/-- Ending jobs touches the queue's entries, the lanes and the intake (R90, R104). -/
theorem endJobs_frame (ids : List Nat) (v : EndVerdict) (s : State) :
    endJobs ids v s = { s with
      intake := (endJobs ids v s).intake
      laneA := (endJobs ids v s).laneA
      laneB := (endJobs ids v s).laneB
      queue := (endJobs ids v s).queue } := by
  rfl

@[simp] theorem endJobs_slots (ids : List Nat) (v : EndVerdict) (s : State) :
    (endJobs ids v s).slots = s.slots := by rw [endJobs_frame]
@[simp] theorem endJobs_dir (ids : List Nat) (v : EndVerdict) (s : State) :
    (endJobs ids v s).dir = s.dir := by rw [endJobs_frame]
@[simp] theorem endJobs_recipes (ids : List Nat) (v : EndVerdict) (s : State) :
    (endJobs ids v s).recipes = s.recipes := by rw [endJobs_frame]
@[simp] theorem endJobs_lastLane (ids : List Nat) (v : EndVerdict) (s : State) :
    (endJobs ids v s).lastLane = s.lastLane := by rw [endJobs_frame]
@[simp] theorem endJobs_sending (ids : List Nat) (v : EndVerdict) (s : State) :
    (endJobs ids v s).sending = s.sending := by rw [endJobs_frame]
@[simp] theorem endJobs_conds (ids : List Nat) (v : EndVerdict) (s : State) :
    (endJobs ids v s).conds = s.conds := by rw [endJobs_frame]
@[simp] theorem endJobs_attention (ids : List Nat) (v : EndVerdict) (s : State) :
    (endJobs ids v s).attention = s.attention := by rw [endJobs_frame]
@[simp] theorem endJobs_unit (ids : List Nat) (v : EndVerdict) (s : State) :
    (endJobs ids v s).unit = s.unit := by rw [endJobs_frame]
@[simp] theorem endJobs_copy (ids : List Nat) (v : EndVerdict) (s : State) :
    (endJobs ids v s).copy = s.copy := by rw [endJobs_frame]
@[simp] theorem endJobs_commandBlock (ids : List Nat) (v : EndVerdict) (s : State) :
    (endJobs ids v s).commandBlock = s.commandBlock := by rw [endJobs_frame]
@[simp] theorem endJobs_resultBlock (ids : List Nat) (v : EndVerdict) (s : State) :
    (endJobs ids v s).resultBlock = s.resultBlock := by rw [endJobs_frame]
@[simp] theorem endJobs_anchors (ids : List Nat) (v : EndVerdict) (s : State) :
    (endJobs ids v s).anchors = s.anchors := by rw [endJobs_frame]
@[simp] theorem endJobs_locks (ids : List Nat) (v : EndVerdict) (s : State) :
    (endJobs ids v s).locks = s.locks := by rw [endJobs_frame]
@[simp] theorem endJobs_commandDone (ids : List Nat) (v : EndVerdict) (s : State) :
    (endJobs ids v s).commandDone = s.commandDone := by rw [endJobs_frame]
@[simp] theorem endJobs_startRefused (ids : List Nat) (v : EndVerdict) (s : State) :
    (endJobs ids v s).startRefused = s.startRefused := by rw [endJobs_frame]
@[simp] theorem endJobs_laneDown (ids : List Nat) (v : EndVerdict) (s : State) :
    (endJobs ids v s).laneDown = s.laneDown := by rw [endJobs_frame]
@[simp] theorem endJobs_mask (ids : List Nat) (v : EndVerdict) (s : State) :
    (endJobs ids v s).mask = s.mask := by rw [endJobs_frame]
@[simp] theorem endJobs_lockLine (ids : List Nat) (v : EndVerdict) (s : State) :
    (endJobs ids v s).lockLine = s.lockLine := by rw [endJobs_frame]
@[simp] theorem endJobs_rstLine (ids : List Nat) (v : EndVerdict) (s : State) :
    (endJobs ids v s).rstLine = s.rstLine := by rw [endJobs_frame]
@[simp] theorem endJobs_power (ids : List Nat) (v : EndVerdict) (s : State) :
    (endJobs ids v s).power = s.power := by rw [endJobs_frame]
@[simp] theorem endJobs_port (ids : List Nat) (v : EndVerdict) (s : State) :
    (endJobs ids v s).port = s.port := by rw [endJobs_frame]
@[simp] theorem endJobs_nextJob (ids : List Nat) (v : EndVerdict) (s : State) :
    (endJobs ids v s).nextJob = s.nextJob := by rw [endJobs_frame]
@[simp] theorem endJobs_serial (ids : List Nat) (v : EndVerdict) (s : State) :
    (endJobs ids v s).serial = s.serial := by rw [endJobs_frame]
@[simp] theorem endJobs_pending (ids : List Nat) (v : EndVerdict) (s : State) :
    (endJobs ids v s).pending = s.pending := by rw [endJobs_frame]

/-- Damage touches a record's check agreement (assumption 3). -/
theorem damageOne_frame (d : Damage) (s : State) :
    damageOne s d = { s with
      slots := (damageOne s d).slots } := by
  rfl

@[simp] theorem damageOne_dir (d : Damage) (s : State) :
    (damageOne s d).dir = s.dir := by rw [damageOne_frame]
@[simp] theorem damageOne_recipes (d : Damage) (s : State) :
    (damageOne s d).recipes = s.recipes := by rw [damageOne_frame]
@[simp] theorem damageOne_intake (d : Damage) (s : State) :
    (damageOne s d).intake = s.intake := by rw [damageOne_frame]
@[simp] theorem damageOne_lastLane (d : Damage) (s : State) :
    (damageOne s d).lastLane = s.lastLane := by rw [damageOne_frame]
@[simp] theorem damageOne_laneA (d : Damage) (s : State) :
    (damageOne s d).laneA = s.laneA := by rw [damageOne_frame]
@[simp] theorem damageOne_laneB (d : Damage) (s : State) :
    (damageOne s d).laneB = s.laneB := by rw [damageOne_frame]
@[simp] theorem damageOne_queue (d : Damage) (s : State) :
    (damageOne s d).queue = s.queue := by rw [damageOne_frame]
@[simp] theorem damageOne_sending (d : Damage) (s : State) :
    (damageOne s d).sending = s.sending := by rw [damageOne_frame]
@[simp] theorem damageOne_conds (d : Damage) (s : State) :
    (damageOne s d).conds = s.conds := by rw [damageOne_frame]
@[simp] theorem damageOne_attention (d : Damage) (s : State) :
    (damageOne s d).attention = s.attention := by rw [damageOne_frame]
@[simp] theorem damageOne_unit (d : Damage) (s : State) :
    (damageOne s d).unit = s.unit := by rw [damageOne_frame]
@[simp] theorem damageOne_copy (d : Damage) (s : State) :
    (damageOne s d).copy = s.copy := by rw [damageOne_frame]
@[simp] theorem damageOne_commandBlock (d : Damage) (s : State) :
    (damageOne s d).commandBlock = s.commandBlock := by rw [damageOne_frame]
@[simp] theorem damageOne_resultBlock (d : Damage) (s : State) :
    (damageOne s d).resultBlock = s.resultBlock := by rw [damageOne_frame]
@[simp] theorem damageOne_anchors (d : Damage) (s : State) :
    (damageOne s d).anchors = s.anchors := by rw [damageOne_frame]
@[simp] theorem damageOne_locks (d : Damage) (s : State) :
    (damageOne s d).locks = s.locks := by rw [damageOne_frame]
@[simp] theorem damageOne_commandDone (d : Damage) (s : State) :
    (damageOne s d).commandDone = s.commandDone := by rw [damageOne_frame]
@[simp] theorem damageOne_startRefused (d : Damage) (s : State) :
    (damageOne s d).startRefused = s.startRefused := by rw [damageOne_frame]
@[simp] theorem damageOne_laneDown (d : Damage) (s : State) :
    (damageOne s d).laneDown = s.laneDown := by rw [damageOne_frame]
@[simp] theorem damageOne_mask (d : Damage) (s : State) :
    (damageOne s d).mask = s.mask := by rw [damageOne_frame]
@[simp] theorem damageOne_lockLine (d : Damage) (s : State) :
    (damageOne s d).lockLine = s.lockLine := by rw [damageOne_frame]
@[simp] theorem damageOne_rstLine (d : Damage) (s : State) :
    (damageOne s d).rstLine = s.rstLine := by rw [damageOne_frame]
@[simp] theorem damageOne_power (d : Damage) (s : State) :
    (damageOne s d).power = s.power := by rw [damageOne_frame]
@[simp] theorem damageOne_port (d : Damage) (s : State) :
    (damageOne s d).port = s.port := by rw [damageOne_frame]
@[simp] theorem damageOne_nextJob (d : Damage) (s : State) :
    (damageOne s d).nextJob = s.nextJob := by rw [damageOne_frame]
@[simp] theorem damageOne_serial (d : Damage) (s : State) :
    (damageOne s d).serial = s.serial := by rw [damageOne_frame]
@[simp] theorem damageOne_pending (d : Damage) (s : State) :
    (damageOne s d).pending = s.pending := by rw [damageOne_frame]

/-- So does a list of damages. -/
theorem damage_frame (ds : List Damage) (s : State) :
    damage ds s = { s with
      slots := (damage ds s).slots } := by
  induction ds generalizing s with
  | nil => rfl
  | cons d ds ih => exact (ih (damageOne s d)).trans (by rw [damageOne_frame]; rfl)

@[simp] theorem damage_dir (ds : List Damage) (s : State) :
    (damage ds s).dir = s.dir := by rw [damage_frame]
@[simp] theorem damage_recipes (ds : List Damage) (s : State) :
    (damage ds s).recipes = s.recipes := by rw [damage_frame]
@[simp] theorem damage_intake (ds : List Damage) (s : State) :
    (damage ds s).intake = s.intake := by rw [damage_frame]
@[simp] theorem damage_lastLane (ds : List Damage) (s : State) :
    (damage ds s).lastLane = s.lastLane := by rw [damage_frame]
@[simp] theorem damage_laneA (ds : List Damage) (s : State) :
    (damage ds s).laneA = s.laneA := by rw [damage_frame]
@[simp] theorem damage_laneB (ds : List Damage) (s : State) :
    (damage ds s).laneB = s.laneB := by rw [damage_frame]
@[simp] theorem damage_queue (ds : List Damage) (s : State) :
    (damage ds s).queue = s.queue := by rw [damage_frame]
@[simp] theorem damage_sending (ds : List Damage) (s : State) :
    (damage ds s).sending = s.sending := by rw [damage_frame]
@[simp] theorem damage_conds (ds : List Damage) (s : State) :
    (damage ds s).conds = s.conds := by rw [damage_frame]
@[simp] theorem damage_attention (ds : List Damage) (s : State) :
    (damage ds s).attention = s.attention := by rw [damage_frame]
@[simp] theorem damage_unit (ds : List Damage) (s : State) :
    (damage ds s).unit = s.unit := by rw [damage_frame]
@[simp] theorem damage_copy (ds : List Damage) (s : State) :
    (damage ds s).copy = s.copy := by rw [damage_frame]
@[simp] theorem damage_commandBlock (ds : List Damage) (s : State) :
    (damage ds s).commandBlock = s.commandBlock := by rw [damage_frame]
@[simp] theorem damage_resultBlock (ds : List Damage) (s : State) :
    (damage ds s).resultBlock = s.resultBlock := by rw [damage_frame]
@[simp] theorem damage_anchors (ds : List Damage) (s : State) :
    (damage ds s).anchors = s.anchors := by rw [damage_frame]
@[simp] theorem damage_locks (ds : List Damage) (s : State) :
    (damage ds s).locks = s.locks := by rw [damage_frame]
@[simp] theorem damage_commandDone (ds : List Damage) (s : State) :
    (damage ds s).commandDone = s.commandDone := by rw [damage_frame]
@[simp] theorem damage_startRefused (ds : List Damage) (s : State) :
    (damage ds s).startRefused = s.startRefused := by rw [damage_frame]
@[simp] theorem damage_laneDown (ds : List Damage) (s : State) :
    (damage ds s).laneDown = s.laneDown := by rw [damage_frame]
@[simp] theorem damage_mask (ds : List Damage) (s : State) :
    (damage ds s).mask = s.mask := by rw [damage_frame]
@[simp] theorem damage_lockLine (ds : List Damage) (s : State) :
    (damage ds s).lockLine = s.lockLine := by rw [damage_frame]
@[simp] theorem damage_rstLine (ds : List Damage) (s : State) :
    (damage ds s).rstLine = s.rstLine := by rw [damage_frame]
@[simp] theorem damage_power (ds : List Damage) (s : State) :
    (damage ds s).power = s.power := by rw [damage_frame]
@[simp] theorem damage_port (ds : List Damage) (s : State) :
    (damage ds s).port = s.port := by rw [damage_frame]
@[simp] theorem damage_nextJob (ds : List Damage) (s : State) :
    (damage ds s).nextJob = s.nextJob := by rw [damage_frame]
@[simp] theorem damage_serial (ds : List Damage) (s : State) :
    (damage ds s).serial = s.serial := by rw [damage_frame]
@[simp] theorem damage_pending (ds : List Damage) (s : State) :
    (damage ds s).pending = s.pending := by rw [damage_frame]

/-- A quarantine touches the slot, its jobs and its record (R23). -/
theorem quarantine_frame (p : CondPhase) (q : Option SeqNo) (g : CheckGroup) (k : SlotNo) (s : State) :
    quarantine p q g k s = { s with
      slots := (quarantine p q g k s).slots
      intake := (quarantine p q g k s).intake
      laneA := (quarantine p q g k s).laneA
      laneB := (quarantine p q g k s).laneB
      queue := (quarantine p q g k s).queue
      conds := (quarantine p q g k s).conds
      attention := (quarantine p q g k s).attention } := by
  unfold quarantine; rw [applyEnding_frame, raiseOn_frame, endJobs_frame]; rfl

@[simp] theorem quarantine_dir (p : CondPhase) (q : Option SeqNo) (g : CheckGroup) (k : SlotNo) (s : State) :
    (quarantine p q g k s).dir = s.dir := by rw [quarantine_frame]
@[simp] theorem quarantine_recipes (p : CondPhase) (q : Option SeqNo) (g : CheckGroup) (k : SlotNo) (s : State) :
    (quarantine p q g k s).recipes = s.recipes := by rw [quarantine_frame]
@[simp] theorem quarantine_lastLane (p : CondPhase) (q : Option SeqNo) (g : CheckGroup) (k : SlotNo) (s : State) :
    (quarantine p q g k s).lastLane = s.lastLane := by rw [quarantine_frame]
@[simp] theorem quarantine_sending (p : CondPhase) (q : Option SeqNo) (g : CheckGroup) (k : SlotNo) (s : State) :
    (quarantine p q g k s).sending = s.sending := by rw [quarantine_frame]
@[simp] theorem quarantine_unit (p : CondPhase) (q : Option SeqNo) (g : CheckGroup) (k : SlotNo) (s : State) :
    (quarantine p q g k s).unit = s.unit := by rw [quarantine_frame]
@[simp] theorem quarantine_copy (p : CondPhase) (q : Option SeqNo) (g : CheckGroup) (k : SlotNo) (s : State) :
    (quarantine p q g k s).copy = s.copy := by rw [quarantine_frame]
@[simp] theorem quarantine_commandBlock (p : CondPhase) (q : Option SeqNo) (g : CheckGroup) (k : SlotNo) (s : State) :
    (quarantine p q g k s).commandBlock = s.commandBlock := by rw [quarantine_frame]
@[simp] theorem quarantine_resultBlock (p : CondPhase) (q : Option SeqNo) (g : CheckGroup) (k : SlotNo) (s : State) :
    (quarantine p q g k s).resultBlock = s.resultBlock := by rw [quarantine_frame]
@[simp] theorem quarantine_anchors (p : CondPhase) (q : Option SeqNo) (g : CheckGroup) (k : SlotNo) (s : State) :
    (quarantine p q g k s).anchors = s.anchors := by rw [quarantine_frame]
@[simp] theorem quarantine_locks (p : CondPhase) (q : Option SeqNo) (g : CheckGroup) (k : SlotNo) (s : State) :
    (quarantine p q g k s).locks = s.locks := by rw [quarantine_frame]
@[simp] theorem quarantine_commandDone (p : CondPhase) (q : Option SeqNo) (g : CheckGroup) (k : SlotNo) (s : State) :
    (quarantine p q g k s).commandDone = s.commandDone := by rw [quarantine_frame]
@[simp] theorem quarantine_startRefused (p : CondPhase) (q : Option SeqNo) (g : CheckGroup) (k : SlotNo) (s : State) :
    (quarantine p q g k s).startRefused = s.startRefused := by rw [quarantine_frame]
@[simp] theorem quarantine_laneDown (p : CondPhase) (q : Option SeqNo) (g : CheckGroup) (k : SlotNo) (s : State) :
    (quarantine p q g k s).laneDown = s.laneDown := by rw [quarantine_frame]
@[simp] theorem quarantine_mask (p : CondPhase) (q : Option SeqNo) (g : CheckGroup) (k : SlotNo) (s : State) :
    (quarantine p q g k s).mask = s.mask := by rw [quarantine_frame]
@[simp] theorem quarantine_lockLine (p : CondPhase) (q : Option SeqNo) (g : CheckGroup) (k : SlotNo) (s : State) :
    (quarantine p q g k s).lockLine = s.lockLine := by rw [quarantine_frame]
@[simp] theorem quarantine_rstLine (p : CondPhase) (q : Option SeqNo) (g : CheckGroup) (k : SlotNo) (s : State) :
    (quarantine p q g k s).rstLine = s.rstLine := by rw [quarantine_frame]
@[simp] theorem quarantine_power (p : CondPhase) (q : Option SeqNo) (g : CheckGroup) (k : SlotNo) (s : State) :
    (quarantine p q g k s).power = s.power := by rw [quarantine_frame]
@[simp] theorem quarantine_port (p : CondPhase) (q : Option SeqNo) (g : CheckGroup) (k : SlotNo) (s : State) :
    (quarantine p q g k s).port = s.port := by rw [quarantine_frame]
@[simp] theorem quarantine_nextJob (p : CondPhase) (q : Option SeqNo) (g : CheckGroup) (k : SlotNo) (s : State) :
    (quarantine p q g k s).nextJob = s.nextJob := by rw [quarantine_frame]
@[simp] theorem quarantine_serial (p : CondPhase) (q : Option SeqNo) (g : CheckGroup) (k : SlotNo) (s : State) :
    (quarantine p q g k s).serial = s.serial := by rw [quarantine_frame]
@[simp] theorem quarantine_pending (p : CondPhase) (q : Option SeqNo) (g : CheckGroup) (k : SlotNo) (s : State) :
    (quarantine p q g k s).pending = s.pending := by rw [quarantine_frame]

/-- A record check touches what a quarantine does (R22). -/
theorem recordCheck_frame (p : CondPhase) (q : Option SeqNo) (k : SlotNo) (s : State) :
    recordCheck p q k s = { s with
      slots := (recordCheck p q k s).slots
      intake := (recordCheck p q k s).intake
      laneA := (recordCheck p q k s).laneA
      laneB := (recordCheck p q k s).laneB
      queue := (recordCheck p q k s).queue
      conds := (recordCheck p q k s).conds
      attention := (recordCheck p q k s).attention } := by
  unfold recordCheck; split <;> [exact quarantine_frame p q _ k s; rfl]

@[simp] theorem recordCheck_dir (p : CondPhase) (q : Option SeqNo) (k : SlotNo) (s : State) :
    (recordCheck p q k s).dir = s.dir := by rw [recordCheck_frame]
@[simp] theorem recordCheck_recipes (p : CondPhase) (q : Option SeqNo) (k : SlotNo) (s : State) :
    (recordCheck p q k s).recipes = s.recipes := by rw [recordCheck_frame]
@[simp] theorem recordCheck_lastLane (p : CondPhase) (q : Option SeqNo) (k : SlotNo) (s : State) :
    (recordCheck p q k s).lastLane = s.lastLane := by rw [recordCheck_frame]
@[simp] theorem recordCheck_sending (p : CondPhase) (q : Option SeqNo) (k : SlotNo) (s : State) :
    (recordCheck p q k s).sending = s.sending := by rw [recordCheck_frame]
@[simp] theorem recordCheck_unit (p : CondPhase) (q : Option SeqNo) (k : SlotNo) (s : State) :
    (recordCheck p q k s).unit = s.unit := by rw [recordCheck_frame]
@[simp] theorem recordCheck_copy (p : CondPhase) (q : Option SeqNo) (k : SlotNo) (s : State) :
    (recordCheck p q k s).copy = s.copy := by rw [recordCheck_frame]
@[simp] theorem recordCheck_commandBlock (p : CondPhase) (q : Option SeqNo) (k : SlotNo) (s : State) :
    (recordCheck p q k s).commandBlock = s.commandBlock := by rw [recordCheck_frame]
@[simp] theorem recordCheck_resultBlock (p : CondPhase) (q : Option SeqNo) (k : SlotNo) (s : State) :
    (recordCheck p q k s).resultBlock = s.resultBlock := by rw [recordCheck_frame]
@[simp] theorem recordCheck_anchors (p : CondPhase) (q : Option SeqNo) (k : SlotNo) (s : State) :
    (recordCheck p q k s).anchors = s.anchors := by rw [recordCheck_frame]
@[simp] theorem recordCheck_locks (p : CondPhase) (q : Option SeqNo) (k : SlotNo) (s : State) :
    (recordCheck p q k s).locks = s.locks := by rw [recordCheck_frame]
@[simp] theorem recordCheck_commandDone (p : CondPhase) (q : Option SeqNo) (k : SlotNo) (s : State) :
    (recordCheck p q k s).commandDone = s.commandDone := by rw [recordCheck_frame]
@[simp] theorem recordCheck_startRefused (p : CondPhase) (q : Option SeqNo) (k : SlotNo) (s : State) :
    (recordCheck p q k s).startRefused = s.startRefused := by rw [recordCheck_frame]
@[simp] theorem recordCheck_laneDown (p : CondPhase) (q : Option SeqNo) (k : SlotNo) (s : State) :
    (recordCheck p q k s).laneDown = s.laneDown := by rw [recordCheck_frame]
@[simp] theorem recordCheck_mask (p : CondPhase) (q : Option SeqNo) (k : SlotNo) (s : State) :
    (recordCheck p q k s).mask = s.mask := by rw [recordCheck_frame]
@[simp] theorem recordCheck_lockLine (p : CondPhase) (q : Option SeqNo) (k : SlotNo) (s : State) :
    (recordCheck p q k s).lockLine = s.lockLine := by rw [recordCheck_frame]
@[simp] theorem recordCheck_rstLine (p : CondPhase) (q : Option SeqNo) (k : SlotNo) (s : State) :
    (recordCheck p q k s).rstLine = s.rstLine := by rw [recordCheck_frame]
@[simp] theorem recordCheck_power (p : CondPhase) (q : Option SeqNo) (k : SlotNo) (s : State) :
    (recordCheck p q k s).power = s.power := by rw [recordCheck_frame]
@[simp] theorem recordCheck_port (p : CondPhase) (q : Option SeqNo) (k : SlotNo) (s : State) :
    (recordCheck p q k s).port = s.port := by rw [recordCheck_frame]
@[simp] theorem recordCheck_nextJob (p : CondPhase) (q : Option SeqNo) (k : SlotNo) (s : State) :
    (recordCheck p q k s).nextJob = s.nextJob := by rw [recordCheck_frame]
@[simp] theorem recordCheck_serial (p : CondPhase) (q : Option SeqNo) (k : SlotNo) (s : State) :
    (recordCheck p q k s).serial = s.serial := by rw [recordCheck_frame]
@[simp] theorem recordCheck_pending (p : CondPhase) (q : Option SeqNo) (k : SlotNo) (s : State) :
    (recordCheck p q k s).pending = s.pending := by rw [recordCheck_frame]

/-- So does the check of a slot there may not be. -/
theorem recordCheckSome_frame (p : CondPhase) (q : Option SeqNo) (k : Option SlotNo) (s : State) :
    recordCheckSome p q k s = { s with
      slots := (recordCheckSome p q k s).slots
      intake := (recordCheckSome p q k s).intake
      laneA := (recordCheckSome p q k s).laneA
      laneB := (recordCheckSome p q k s).laneB
      queue := (recordCheckSome p q k s).queue
      conds := (recordCheckSome p q k s).conds
      attention := (recordCheckSome p q k s).attention } := by
  cases k; · rfl
  · exact recordCheck_frame p q _ s

@[simp] theorem recordCheckSome_dir (p : CondPhase) (q : Option SeqNo) (k : Option SlotNo) (s : State) :
    (recordCheckSome p q k s).dir = s.dir := by rw [recordCheckSome_frame]
@[simp] theorem recordCheckSome_recipes (p : CondPhase) (q : Option SeqNo) (k : Option SlotNo) (s : State) :
    (recordCheckSome p q k s).recipes = s.recipes := by rw [recordCheckSome_frame]
@[simp] theorem recordCheckSome_lastLane (p : CondPhase) (q : Option SeqNo) (k : Option SlotNo) (s : State) :
    (recordCheckSome p q k s).lastLane = s.lastLane := by rw [recordCheckSome_frame]
@[simp] theorem recordCheckSome_sending (p : CondPhase) (q : Option SeqNo) (k : Option SlotNo) (s : State) :
    (recordCheckSome p q k s).sending = s.sending := by rw [recordCheckSome_frame]
@[simp] theorem recordCheckSome_unit (p : CondPhase) (q : Option SeqNo) (k : Option SlotNo) (s : State) :
    (recordCheckSome p q k s).unit = s.unit := by rw [recordCheckSome_frame]
@[simp] theorem recordCheckSome_copy (p : CondPhase) (q : Option SeqNo) (k : Option SlotNo) (s : State) :
    (recordCheckSome p q k s).copy = s.copy := by rw [recordCheckSome_frame]
@[simp] theorem recordCheckSome_commandBlock (p : CondPhase) (q : Option SeqNo) (k : Option SlotNo) (s : State) :
    (recordCheckSome p q k s).commandBlock = s.commandBlock := by rw [recordCheckSome_frame]
@[simp] theorem recordCheckSome_resultBlock (p : CondPhase) (q : Option SeqNo) (k : Option SlotNo) (s : State) :
    (recordCheckSome p q k s).resultBlock = s.resultBlock := by rw [recordCheckSome_frame]
@[simp] theorem recordCheckSome_anchors (p : CondPhase) (q : Option SeqNo) (k : Option SlotNo) (s : State) :
    (recordCheckSome p q k s).anchors = s.anchors := by rw [recordCheckSome_frame]
@[simp] theorem recordCheckSome_locks (p : CondPhase) (q : Option SeqNo) (k : Option SlotNo) (s : State) :
    (recordCheckSome p q k s).locks = s.locks := by rw [recordCheckSome_frame]
@[simp] theorem recordCheckSome_commandDone (p : CondPhase) (q : Option SeqNo) (k : Option SlotNo) (s : State) :
    (recordCheckSome p q k s).commandDone = s.commandDone := by rw [recordCheckSome_frame]
@[simp] theorem recordCheckSome_startRefused (p : CondPhase) (q : Option SeqNo) (k : Option SlotNo) (s : State) :
    (recordCheckSome p q k s).startRefused = s.startRefused := by rw [recordCheckSome_frame]
@[simp] theorem recordCheckSome_laneDown (p : CondPhase) (q : Option SeqNo) (k : Option SlotNo) (s : State) :
    (recordCheckSome p q k s).laneDown = s.laneDown := by rw [recordCheckSome_frame]
@[simp] theorem recordCheckSome_mask (p : CondPhase) (q : Option SeqNo) (k : Option SlotNo) (s : State) :
    (recordCheckSome p q k s).mask = s.mask := by rw [recordCheckSome_frame]
@[simp] theorem recordCheckSome_lockLine (p : CondPhase) (q : Option SeqNo) (k : Option SlotNo) (s : State) :
    (recordCheckSome p q k s).lockLine = s.lockLine := by rw [recordCheckSome_frame]
@[simp] theorem recordCheckSome_rstLine (p : CondPhase) (q : Option SeqNo) (k : Option SlotNo) (s : State) :
    (recordCheckSome p q k s).rstLine = s.rstLine := by rw [recordCheckSome_frame]
@[simp] theorem recordCheckSome_power (p : CondPhase) (q : Option SeqNo) (k : Option SlotNo) (s : State) :
    (recordCheckSome p q k s).power = s.power := by rw [recordCheckSome_frame]
@[simp] theorem recordCheckSome_port (p : CondPhase) (q : Option SeqNo) (k : Option SlotNo) (s : State) :
    (recordCheckSome p q k s).port = s.port := by rw [recordCheckSome_frame]
@[simp] theorem recordCheckSome_nextJob (p : CondPhase) (q : Option SeqNo) (k : Option SlotNo) (s : State) :
    (recordCheckSome p q k s).nextJob = s.nextJob := by rw [recordCheckSome_frame]
@[simp] theorem recordCheckSome_serial (p : CondPhase) (q : Option SeqNo) (k : Option SlotNo) (s : State) :
    (recordCheckSome p q k s).serial = s.serial := by rw [recordCheckSome_frame]
@[simp] theorem recordCheckSome_pending (p : CondPhase) (q : Option SeqNo) (k : Option SlotNo) (s : State) :
    (recordCheckSome p q k s).pending = s.pending := by rw [recordCheckSome_frame]

/-- Unbinding touches the directory (R32). -/
theorem unbind_frame (t : Tag) (k : SlotNo) (s : State) :
    unbind t k s = { s with
      dir := (unbind t k s).dir } := by
  rfl

@[simp] theorem unbind_slots (t : Tag) (k : SlotNo) (s : State) :
    (unbind t k s).slots = s.slots := by rw [unbind_frame]
@[simp] theorem unbind_recipes (t : Tag) (k : SlotNo) (s : State) :
    (unbind t k s).recipes = s.recipes := by rw [unbind_frame]
@[simp] theorem unbind_intake (t : Tag) (k : SlotNo) (s : State) :
    (unbind t k s).intake = s.intake := by rw [unbind_frame]
@[simp] theorem unbind_lastLane (t : Tag) (k : SlotNo) (s : State) :
    (unbind t k s).lastLane = s.lastLane := by rw [unbind_frame]
@[simp] theorem unbind_laneA (t : Tag) (k : SlotNo) (s : State) :
    (unbind t k s).laneA = s.laneA := by rw [unbind_frame]
@[simp] theorem unbind_laneB (t : Tag) (k : SlotNo) (s : State) :
    (unbind t k s).laneB = s.laneB := by rw [unbind_frame]
@[simp] theorem unbind_queue (t : Tag) (k : SlotNo) (s : State) :
    (unbind t k s).queue = s.queue := by rw [unbind_frame]
@[simp] theorem unbind_sending (t : Tag) (k : SlotNo) (s : State) :
    (unbind t k s).sending = s.sending := by rw [unbind_frame]
@[simp] theorem unbind_conds (t : Tag) (k : SlotNo) (s : State) :
    (unbind t k s).conds = s.conds := by rw [unbind_frame]
@[simp] theorem unbind_attention (t : Tag) (k : SlotNo) (s : State) :
    (unbind t k s).attention = s.attention := by rw [unbind_frame]
@[simp] theorem unbind_unit (t : Tag) (k : SlotNo) (s : State) :
    (unbind t k s).unit = s.unit := by rw [unbind_frame]
@[simp] theorem unbind_copy (t : Tag) (k : SlotNo) (s : State) :
    (unbind t k s).copy = s.copy := by rw [unbind_frame]
@[simp] theorem unbind_commandBlock (t : Tag) (k : SlotNo) (s : State) :
    (unbind t k s).commandBlock = s.commandBlock := by rw [unbind_frame]
@[simp] theorem unbind_resultBlock (t : Tag) (k : SlotNo) (s : State) :
    (unbind t k s).resultBlock = s.resultBlock := by rw [unbind_frame]
@[simp] theorem unbind_anchors (t : Tag) (k : SlotNo) (s : State) :
    (unbind t k s).anchors = s.anchors := by rw [unbind_frame]
@[simp] theorem unbind_locks (t : Tag) (k : SlotNo) (s : State) :
    (unbind t k s).locks = s.locks := by rw [unbind_frame]
@[simp] theorem unbind_commandDone (t : Tag) (k : SlotNo) (s : State) :
    (unbind t k s).commandDone = s.commandDone := by rw [unbind_frame]
@[simp] theorem unbind_startRefused (t : Tag) (k : SlotNo) (s : State) :
    (unbind t k s).startRefused = s.startRefused := by rw [unbind_frame]
@[simp] theorem unbind_laneDown (t : Tag) (k : SlotNo) (s : State) :
    (unbind t k s).laneDown = s.laneDown := by rw [unbind_frame]
@[simp] theorem unbind_mask (t : Tag) (k : SlotNo) (s : State) :
    (unbind t k s).mask = s.mask := by rw [unbind_frame]
@[simp] theorem unbind_lockLine (t : Tag) (k : SlotNo) (s : State) :
    (unbind t k s).lockLine = s.lockLine := by rw [unbind_frame]
@[simp] theorem unbind_rstLine (t : Tag) (k : SlotNo) (s : State) :
    (unbind t k s).rstLine = s.rstLine := by rw [unbind_frame]
@[simp] theorem unbind_power (t : Tag) (k : SlotNo) (s : State) :
    (unbind t k s).power = s.power := by rw [unbind_frame]
@[simp] theorem unbind_port (t : Tag) (k : SlotNo) (s : State) :
    (unbind t k s).port = s.port := by rw [unbind_frame]
@[simp] theorem unbind_nextJob (t : Tag) (k : SlotNo) (s : State) :
    (unbind t k s).nextJob = s.nextJob := by rw [unbind_frame]
@[simp] theorem unbind_serial (t : Tag) (k : SlotNo) (s : State) :
    (unbind t k s).serial = s.serial := by rw [unbind_frame]
@[simp] theorem unbind_pending (t : Tag) (k : SlotNo) (s : State) :
    (unbind t k s).pending = s.pending := by rw [unbind_frame]

/-- Binding touches the slot and the directory (R31). -/
theorem bindSlot_frame (t : Tag) (b : Bool) (k : SlotNo) (s : State) :
    bindSlot t b k s = { s with
      slots := (bindSlot t b k s).slots
      dir := (bindSlot t b k s).dir } := by
  rfl

@[simp] theorem bindSlot_recipes (t : Tag) (b : Bool) (k : SlotNo) (s : State) :
    (bindSlot t b k s).recipes = s.recipes := by rw [bindSlot_frame]
@[simp] theorem bindSlot_intake (t : Tag) (b : Bool) (k : SlotNo) (s : State) :
    (bindSlot t b k s).intake = s.intake := by rw [bindSlot_frame]
@[simp] theorem bindSlot_lastLane (t : Tag) (b : Bool) (k : SlotNo) (s : State) :
    (bindSlot t b k s).lastLane = s.lastLane := by rw [bindSlot_frame]
@[simp] theorem bindSlot_laneA (t : Tag) (b : Bool) (k : SlotNo) (s : State) :
    (bindSlot t b k s).laneA = s.laneA := by rw [bindSlot_frame]
@[simp] theorem bindSlot_laneB (t : Tag) (b : Bool) (k : SlotNo) (s : State) :
    (bindSlot t b k s).laneB = s.laneB := by rw [bindSlot_frame]
@[simp] theorem bindSlot_queue (t : Tag) (b : Bool) (k : SlotNo) (s : State) :
    (bindSlot t b k s).queue = s.queue := by rw [bindSlot_frame]
@[simp] theorem bindSlot_sending (t : Tag) (b : Bool) (k : SlotNo) (s : State) :
    (bindSlot t b k s).sending = s.sending := by rw [bindSlot_frame]
@[simp] theorem bindSlot_conds (t : Tag) (b : Bool) (k : SlotNo) (s : State) :
    (bindSlot t b k s).conds = s.conds := by rw [bindSlot_frame]
@[simp] theorem bindSlot_attention (t : Tag) (b : Bool) (k : SlotNo) (s : State) :
    (bindSlot t b k s).attention = s.attention := by rw [bindSlot_frame]
@[simp] theorem bindSlot_unit (t : Tag) (b : Bool) (k : SlotNo) (s : State) :
    (bindSlot t b k s).unit = s.unit := by rw [bindSlot_frame]
@[simp] theorem bindSlot_copy (t : Tag) (b : Bool) (k : SlotNo) (s : State) :
    (bindSlot t b k s).copy = s.copy := by rw [bindSlot_frame]
@[simp] theorem bindSlot_commandBlock (t : Tag) (b : Bool) (k : SlotNo) (s : State) :
    (bindSlot t b k s).commandBlock = s.commandBlock := by rw [bindSlot_frame]
@[simp] theorem bindSlot_resultBlock (t : Tag) (b : Bool) (k : SlotNo) (s : State) :
    (bindSlot t b k s).resultBlock = s.resultBlock := by rw [bindSlot_frame]
@[simp] theorem bindSlot_anchors (t : Tag) (b : Bool) (k : SlotNo) (s : State) :
    (bindSlot t b k s).anchors = s.anchors := by rw [bindSlot_frame]
@[simp] theorem bindSlot_locks (t : Tag) (b : Bool) (k : SlotNo) (s : State) :
    (bindSlot t b k s).locks = s.locks := by rw [bindSlot_frame]
@[simp] theorem bindSlot_commandDone (t : Tag) (b : Bool) (k : SlotNo) (s : State) :
    (bindSlot t b k s).commandDone = s.commandDone := by rw [bindSlot_frame]
@[simp] theorem bindSlot_startRefused (t : Tag) (b : Bool) (k : SlotNo) (s : State) :
    (bindSlot t b k s).startRefused = s.startRefused := by rw [bindSlot_frame]
@[simp] theorem bindSlot_laneDown (t : Tag) (b : Bool) (k : SlotNo) (s : State) :
    (bindSlot t b k s).laneDown = s.laneDown := by rw [bindSlot_frame]
@[simp] theorem bindSlot_mask (t : Tag) (b : Bool) (k : SlotNo) (s : State) :
    (bindSlot t b k s).mask = s.mask := by rw [bindSlot_frame]
@[simp] theorem bindSlot_lockLine (t : Tag) (b : Bool) (k : SlotNo) (s : State) :
    (bindSlot t b k s).lockLine = s.lockLine := by rw [bindSlot_frame]
@[simp] theorem bindSlot_rstLine (t : Tag) (b : Bool) (k : SlotNo) (s : State) :
    (bindSlot t b k s).rstLine = s.rstLine := by rw [bindSlot_frame]
@[simp] theorem bindSlot_power (t : Tag) (b : Bool) (k : SlotNo) (s : State) :
    (bindSlot t b k s).power = s.power := by rw [bindSlot_frame]
@[simp] theorem bindSlot_port (t : Tag) (b : Bool) (k : SlotNo) (s : State) :
    (bindSlot t b k s).port = s.port := by rw [bindSlot_frame]
@[simp] theorem bindSlot_nextJob (t : Tag) (b : Bool) (k : SlotNo) (s : State) :
    (bindSlot t b k s).nextJob = s.nextJob := by rw [bindSlot_frame]
@[simp] theorem bindSlot_serial (t : Tag) (b : Bool) (k : SlotNo) (s : State) :
    (bindSlot t b k s).serial = s.serial := by rw [bindSlot_frame]
@[simp] theorem bindSlot_pending (t : Tag) (b : Bool) (k : SlotNo) (s : State) :
    (bindSlot t b k s).pending = s.pending := by rw [bindSlot_frame]

/-- Retire touches the slot, the directory and the slot's record (R17). -/
theorem retireSlot_frame (k : SlotNo) (s : State) :
    retireSlot k s = { s with
      slots := (retireSlot k s).slots
      dir := (retireSlot k s).dir
      conds := (retireSlot k s).conds
      attention := (retireSlot k s).attention } := by
  unfold retireSlot; split <;> [split <;> rfl; rfl]

@[simp] theorem retireSlot_recipes (k : SlotNo) (s : State) :
    (retireSlot k s).recipes = s.recipes := by rw [retireSlot_frame]
@[simp] theorem retireSlot_intake (k : SlotNo) (s : State) :
    (retireSlot k s).intake = s.intake := by rw [retireSlot_frame]
@[simp] theorem retireSlot_lastLane (k : SlotNo) (s : State) :
    (retireSlot k s).lastLane = s.lastLane := by rw [retireSlot_frame]
@[simp] theorem retireSlot_laneA (k : SlotNo) (s : State) :
    (retireSlot k s).laneA = s.laneA := by rw [retireSlot_frame]
@[simp] theorem retireSlot_laneB (k : SlotNo) (s : State) :
    (retireSlot k s).laneB = s.laneB := by rw [retireSlot_frame]
@[simp] theorem retireSlot_queue (k : SlotNo) (s : State) :
    (retireSlot k s).queue = s.queue := by rw [retireSlot_frame]
@[simp] theorem retireSlot_sending (k : SlotNo) (s : State) :
    (retireSlot k s).sending = s.sending := by rw [retireSlot_frame]
@[simp] theorem retireSlot_unit (k : SlotNo) (s : State) :
    (retireSlot k s).unit = s.unit := by rw [retireSlot_frame]
@[simp] theorem retireSlot_copy (k : SlotNo) (s : State) :
    (retireSlot k s).copy = s.copy := by rw [retireSlot_frame]
@[simp] theorem retireSlot_commandBlock (k : SlotNo) (s : State) :
    (retireSlot k s).commandBlock = s.commandBlock := by rw [retireSlot_frame]
@[simp] theorem retireSlot_resultBlock (k : SlotNo) (s : State) :
    (retireSlot k s).resultBlock = s.resultBlock := by rw [retireSlot_frame]
@[simp] theorem retireSlot_anchors (k : SlotNo) (s : State) :
    (retireSlot k s).anchors = s.anchors := by rw [retireSlot_frame]
@[simp] theorem retireSlot_locks (k : SlotNo) (s : State) :
    (retireSlot k s).locks = s.locks := by rw [retireSlot_frame]
@[simp] theorem retireSlot_commandDone (k : SlotNo) (s : State) :
    (retireSlot k s).commandDone = s.commandDone := by rw [retireSlot_frame]
@[simp] theorem retireSlot_startRefused (k : SlotNo) (s : State) :
    (retireSlot k s).startRefused = s.startRefused := by rw [retireSlot_frame]
@[simp] theorem retireSlot_laneDown (k : SlotNo) (s : State) :
    (retireSlot k s).laneDown = s.laneDown := by rw [retireSlot_frame]
@[simp] theorem retireSlot_mask (k : SlotNo) (s : State) :
    (retireSlot k s).mask = s.mask := by rw [retireSlot_frame]
@[simp] theorem retireSlot_lockLine (k : SlotNo) (s : State) :
    (retireSlot k s).lockLine = s.lockLine := by rw [retireSlot_frame]
@[simp] theorem retireSlot_rstLine (k : SlotNo) (s : State) :
    (retireSlot k s).rstLine = s.rstLine := by rw [retireSlot_frame]
@[simp] theorem retireSlot_power (k : SlotNo) (s : State) :
    (retireSlot k s).power = s.power := by rw [retireSlot_frame]
@[simp] theorem retireSlot_port (k : SlotNo) (s : State) :
    (retireSlot k s).port = s.port := by rw [retireSlot_frame]
@[simp] theorem retireSlot_nextJob (k : SlotNo) (s : State) :
    (retireSlot k s).nextJob = s.nextJob := by rw [retireSlot_frame]
@[simp] theorem retireSlot_serial (k : SlotNo) (s : State) :
    (retireSlot k s).serial = s.serial := by rw [retireSlot_frame]
@[simp] theorem retireSlot_pending (k : SlotNo) (s : State) :
    (retireSlot k s).pending = s.pending := by rw [retireSlot_frame]

/-- Drain end touches what retire does, and the record of the tag's ACTIVE (R21). -/
theorem drainEnd_frame (r : Reason) (p : CondPhase) (q : Option SeqNo) (k : SlotNo) (s : State) :
    drainEnd r p q k s = { s with
      slots := (drainEnd r p q k s).slots
      dir := (drainEnd r p q k s).dir
      conds := (drainEnd r p q k s).conds
      attention := (drainEnd r p q k s).attention } := by
  unfold drainEnd; split
  · split
    · rw [raiseOnSome_frame, retireSlot_frame]
    · rfl
  · rfl

@[simp] theorem drainEnd_recipes (r : Reason) (p : CondPhase) (q : Option SeqNo) (k : SlotNo) (s : State) :
    (drainEnd r p q k s).recipes = s.recipes := by rw [drainEnd_frame]
@[simp] theorem drainEnd_intake (r : Reason) (p : CondPhase) (q : Option SeqNo) (k : SlotNo) (s : State) :
    (drainEnd r p q k s).intake = s.intake := by rw [drainEnd_frame]
@[simp] theorem drainEnd_lastLane (r : Reason) (p : CondPhase) (q : Option SeqNo) (k : SlotNo) (s : State) :
    (drainEnd r p q k s).lastLane = s.lastLane := by rw [drainEnd_frame]
@[simp] theorem drainEnd_laneA (r : Reason) (p : CondPhase) (q : Option SeqNo) (k : SlotNo) (s : State) :
    (drainEnd r p q k s).laneA = s.laneA := by rw [drainEnd_frame]
@[simp] theorem drainEnd_laneB (r : Reason) (p : CondPhase) (q : Option SeqNo) (k : SlotNo) (s : State) :
    (drainEnd r p q k s).laneB = s.laneB := by rw [drainEnd_frame]
@[simp] theorem drainEnd_queue (r : Reason) (p : CondPhase) (q : Option SeqNo) (k : SlotNo) (s : State) :
    (drainEnd r p q k s).queue = s.queue := by rw [drainEnd_frame]
@[simp] theorem drainEnd_sending (r : Reason) (p : CondPhase) (q : Option SeqNo) (k : SlotNo) (s : State) :
    (drainEnd r p q k s).sending = s.sending := by rw [drainEnd_frame]
@[simp] theorem drainEnd_unit (r : Reason) (p : CondPhase) (q : Option SeqNo) (k : SlotNo) (s : State) :
    (drainEnd r p q k s).unit = s.unit := by rw [drainEnd_frame]
@[simp] theorem drainEnd_copy (r : Reason) (p : CondPhase) (q : Option SeqNo) (k : SlotNo) (s : State) :
    (drainEnd r p q k s).copy = s.copy := by rw [drainEnd_frame]
@[simp] theorem drainEnd_commandBlock (r : Reason) (p : CondPhase) (q : Option SeqNo) (k : SlotNo) (s : State) :
    (drainEnd r p q k s).commandBlock = s.commandBlock := by rw [drainEnd_frame]
@[simp] theorem drainEnd_resultBlock (r : Reason) (p : CondPhase) (q : Option SeqNo) (k : SlotNo) (s : State) :
    (drainEnd r p q k s).resultBlock = s.resultBlock := by rw [drainEnd_frame]
@[simp] theorem drainEnd_anchors (r : Reason) (p : CondPhase) (q : Option SeqNo) (k : SlotNo) (s : State) :
    (drainEnd r p q k s).anchors = s.anchors := by rw [drainEnd_frame]
@[simp] theorem drainEnd_locks (r : Reason) (p : CondPhase) (q : Option SeqNo) (k : SlotNo) (s : State) :
    (drainEnd r p q k s).locks = s.locks := by rw [drainEnd_frame]
@[simp] theorem drainEnd_commandDone (r : Reason) (p : CondPhase) (q : Option SeqNo) (k : SlotNo) (s : State) :
    (drainEnd r p q k s).commandDone = s.commandDone := by rw [drainEnd_frame]
@[simp] theorem drainEnd_startRefused (r : Reason) (p : CondPhase) (q : Option SeqNo) (k : SlotNo) (s : State) :
    (drainEnd r p q k s).startRefused = s.startRefused := by rw [drainEnd_frame]
@[simp] theorem drainEnd_laneDown (r : Reason) (p : CondPhase) (q : Option SeqNo) (k : SlotNo) (s : State) :
    (drainEnd r p q k s).laneDown = s.laneDown := by rw [drainEnd_frame]
@[simp] theorem drainEnd_mask (r : Reason) (p : CondPhase) (q : Option SeqNo) (k : SlotNo) (s : State) :
    (drainEnd r p q k s).mask = s.mask := by rw [drainEnd_frame]
@[simp] theorem drainEnd_lockLine (r : Reason) (p : CondPhase) (q : Option SeqNo) (k : SlotNo) (s : State) :
    (drainEnd r p q k s).lockLine = s.lockLine := by rw [drainEnd_frame]
@[simp] theorem drainEnd_rstLine (r : Reason) (p : CondPhase) (q : Option SeqNo) (k : SlotNo) (s : State) :
    (drainEnd r p q k s).rstLine = s.rstLine := by rw [drainEnd_frame]
@[simp] theorem drainEnd_power (r : Reason) (p : CondPhase) (q : Option SeqNo) (k : SlotNo) (s : State) :
    (drainEnd r p q k s).power = s.power := by rw [drainEnd_frame]
@[simp] theorem drainEnd_port (r : Reason) (p : CondPhase) (q : Option SeqNo) (k : SlotNo) (s : State) :
    (drainEnd r p q k s).port = s.port := by rw [drainEnd_frame]
@[simp] theorem drainEnd_nextJob (r : Reason) (p : CondPhase) (q : Option SeqNo) (k : SlotNo) (s : State) :
    (drainEnd r p q k s).nextJob = s.nextJob := by rw [drainEnd_frame]
@[simp] theorem drainEnd_serial (r : Reason) (p : CondPhase) (q : Option SeqNo) (k : SlotNo) (s : State) :
    (drainEnd r p q k s).serial = s.serial := by rw [drainEnd_frame]
@[simp] theorem drainEnd_pending (r : Reason) (p : CondPhase) (q : Option SeqNo) (k : SlotNo) (s : State) :
    (drainEnd r p q k s).pending = s.pending := by rw [drainEnd_frame]

/-- A change of a slot there may not be touches the slots. -/
theorem updateSome_frame (k : Option SlotNo) (f : Context → Context) (s : State) :
    updateSome k f s = { s with
      slots := (updateSome k f s).slots } := by
  cases k <;> rfl

@[simp] theorem updateSome_dir (k : Option SlotNo) (f : Context → Context) (s : State) :
    (updateSome k f s).dir = s.dir := by rw [updateSome_frame]
@[simp] theorem updateSome_recipes (k : Option SlotNo) (f : Context → Context) (s : State) :
    (updateSome k f s).recipes = s.recipes := by rw [updateSome_frame]
@[simp] theorem updateSome_intake (k : Option SlotNo) (f : Context → Context) (s : State) :
    (updateSome k f s).intake = s.intake := by rw [updateSome_frame]
@[simp] theorem updateSome_lastLane (k : Option SlotNo) (f : Context → Context) (s : State) :
    (updateSome k f s).lastLane = s.lastLane := by rw [updateSome_frame]
@[simp] theorem updateSome_laneA (k : Option SlotNo) (f : Context → Context) (s : State) :
    (updateSome k f s).laneA = s.laneA := by rw [updateSome_frame]
@[simp] theorem updateSome_laneB (k : Option SlotNo) (f : Context → Context) (s : State) :
    (updateSome k f s).laneB = s.laneB := by rw [updateSome_frame]
@[simp] theorem updateSome_queue (k : Option SlotNo) (f : Context → Context) (s : State) :
    (updateSome k f s).queue = s.queue := by rw [updateSome_frame]
@[simp] theorem updateSome_sending (k : Option SlotNo) (f : Context → Context) (s : State) :
    (updateSome k f s).sending = s.sending := by rw [updateSome_frame]
@[simp] theorem updateSome_conds (k : Option SlotNo) (f : Context → Context) (s : State) :
    (updateSome k f s).conds = s.conds := by rw [updateSome_frame]
@[simp] theorem updateSome_attention (k : Option SlotNo) (f : Context → Context) (s : State) :
    (updateSome k f s).attention = s.attention := by rw [updateSome_frame]
@[simp] theorem updateSome_unit (k : Option SlotNo) (f : Context → Context) (s : State) :
    (updateSome k f s).unit = s.unit := by rw [updateSome_frame]
@[simp] theorem updateSome_copy (k : Option SlotNo) (f : Context → Context) (s : State) :
    (updateSome k f s).copy = s.copy := by rw [updateSome_frame]
@[simp] theorem updateSome_commandBlock (k : Option SlotNo) (f : Context → Context) (s : State) :
    (updateSome k f s).commandBlock = s.commandBlock := by rw [updateSome_frame]
@[simp] theorem updateSome_resultBlock (k : Option SlotNo) (f : Context → Context) (s : State) :
    (updateSome k f s).resultBlock = s.resultBlock := by rw [updateSome_frame]
@[simp] theorem updateSome_anchors (k : Option SlotNo) (f : Context → Context) (s : State) :
    (updateSome k f s).anchors = s.anchors := by rw [updateSome_frame]
@[simp] theorem updateSome_locks (k : Option SlotNo) (f : Context → Context) (s : State) :
    (updateSome k f s).locks = s.locks := by rw [updateSome_frame]
@[simp] theorem updateSome_commandDone (k : Option SlotNo) (f : Context → Context) (s : State) :
    (updateSome k f s).commandDone = s.commandDone := by rw [updateSome_frame]
@[simp] theorem updateSome_startRefused (k : Option SlotNo) (f : Context → Context) (s : State) :
    (updateSome k f s).startRefused = s.startRefused := by rw [updateSome_frame]
@[simp] theorem updateSome_laneDown (k : Option SlotNo) (f : Context → Context) (s : State) :
    (updateSome k f s).laneDown = s.laneDown := by rw [updateSome_frame]
@[simp] theorem updateSome_mask (k : Option SlotNo) (f : Context → Context) (s : State) :
    (updateSome k f s).mask = s.mask := by rw [updateSome_frame]
@[simp] theorem updateSome_lockLine (k : Option SlotNo) (f : Context → Context) (s : State) :
    (updateSome k f s).lockLine = s.lockLine := by rw [updateSome_frame]
@[simp] theorem updateSome_rstLine (k : Option SlotNo) (f : Context → Context) (s : State) :
    (updateSome k f s).rstLine = s.rstLine := by rw [updateSome_frame]
@[simp] theorem updateSome_power (k : Option SlotNo) (f : Context → Context) (s : State) :
    (updateSome k f s).power = s.power := by rw [updateSome_frame]
@[simp] theorem updateSome_port (k : Option SlotNo) (f : Context → Context) (s : State) :
    (updateSome k f s).port = s.port := by rw [updateSome_frame]
@[simp] theorem updateSome_nextJob (k : Option SlotNo) (f : Context → Context) (s : State) :
    (updateSome k f s).nextJob = s.nextJob := by rw [updateSome_frame]
@[simp] theorem updateSome_serial (k : Option SlotNo) (f : Context → Context) (s : State) :
    (updateSome k f s).serial = s.serial := by rw [updateSome_frame]
@[simp] theorem updateSome_pending (k : Option SlotNo) (f : Context → Context) (s : State) :
    (updateSome k f s).pending = s.pending := by rw [updateSome_frame]

/-- The change of a roll-over touches the slots and the directory (R37). -/
theorem swapRoles_frame (t : Tag) (k : SlotNo) (s : State) :
    swapRoles t k s = { s with
      slots := (swapRoles t k s).slots
      dir := (swapRoles t k s).dir } := by
  unfold swapRoles; rw [updateSome_frame]; rfl

@[simp] theorem swapRoles_recipes (t : Tag) (k : SlotNo) (s : State) :
    (swapRoles t k s).recipes = s.recipes := by rw [swapRoles_frame]
@[simp] theorem swapRoles_intake (t : Tag) (k : SlotNo) (s : State) :
    (swapRoles t k s).intake = s.intake := by rw [swapRoles_frame]
@[simp] theorem swapRoles_lastLane (t : Tag) (k : SlotNo) (s : State) :
    (swapRoles t k s).lastLane = s.lastLane := by rw [swapRoles_frame]
@[simp] theorem swapRoles_laneA (t : Tag) (k : SlotNo) (s : State) :
    (swapRoles t k s).laneA = s.laneA := by rw [swapRoles_frame]
@[simp] theorem swapRoles_laneB (t : Tag) (k : SlotNo) (s : State) :
    (swapRoles t k s).laneB = s.laneB := by rw [swapRoles_frame]
@[simp] theorem swapRoles_queue (t : Tag) (k : SlotNo) (s : State) :
    (swapRoles t k s).queue = s.queue := by rw [swapRoles_frame]
@[simp] theorem swapRoles_sending (t : Tag) (k : SlotNo) (s : State) :
    (swapRoles t k s).sending = s.sending := by rw [swapRoles_frame]
@[simp] theorem swapRoles_conds (t : Tag) (k : SlotNo) (s : State) :
    (swapRoles t k s).conds = s.conds := by rw [swapRoles_frame]
@[simp] theorem swapRoles_attention (t : Tag) (k : SlotNo) (s : State) :
    (swapRoles t k s).attention = s.attention := by rw [swapRoles_frame]
@[simp] theorem swapRoles_unit (t : Tag) (k : SlotNo) (s : State) :
    (swapRoles t k s).unit = s.unit := by rw [swapRoles_frame]
@[simp] theorem swapRoles_copy (t : Tag) (k : SlotNo) (s : State) :
    (swapRoles t k s).copy = s.copy := by rw [swapRoles_frame]
@[simp] theorem swapRoles_commandBlock (t : Tag) (k : SlotNo) (s : State) :
    (swapRoles t k s).commandBlock = s.commandBlock := by rw [swapRoles_frame]
@[simp] theorem swapRoles_resultBlock (t : Tag) (k : SlotNo) (s : State) :
    (swapRoles t k s).resultBlock = s.resultBlock := by rw [swapRoles_frame]
@[simp] theorem swapRoles_anchors (t : Tag) (k : SlotNo) (s : State) :
    (swapRoles t k s).anchors = s.anchors := by rw [swapRoles_frame]
@[simp] theorem swapRoles_locks (t : Tag) (k : SlotNo) (s : State) :
    (swapRoles t k s).locks = s.locks := by rw [swapRoles_frame]
@[simp] theorem swapRoles_commandDone (t : Tag) (k : SlotNo) (s : State) :
    (swapRoles t k s).commandDone = s.commandDone := by rw [swapRoles_frame]
@[simp] theorem swapRoles_startRefused (t : Tag) (k : SlotNo) (s : State) :
    (swapRoles t k s).startRefused = s.startRefused := by rw [swapRoles_frame]
@[simp] theorem swapRoles_laneDown (t : Tag) (k : SlotNo) (s : State) :
    (swapRoles t k s).laneDown = s.laneDown := by rw [swapRoles_frame]
@[simp] theorem swapRoles_mask (t : Tag) (k : SlotNo) (s : State) :
    (swapRoles t k s).mask = s.mask := by rw [swapRoles_frame]
@[simp] theorem swapRoles_lockLine (t : Tag) (k : SlotNo) (s : State) :
    (swapRoles t k s).lockLine = s.lockLine := by rw [swapRoles_frame]
@[simp] theorem swapRoles_rstLine (t : Tag) (k : SlotNo) (s : State) :
    (swapRoles t k s).rstLine = s.rstLine := by rw [swapRoles_frame]
@[simp] theorem swapRoles_power (t : Tag) (k : SlotNo) (s : State) :
    (swapRoles t k s).power = s.power := by rw [swapRoles_frame]
@[simp] theorem swapRoles_port (t : Tag) (k : SlotNo) (s : State) :
    (swapRoles t k s).port = s.port := by rw [swapRoles_frame]
@[simp] theorem swapRoles_nextJob (t : Tag) (k : SlotNo) (s : State) :
    (swapRoles t k s).nextJob = s.nextJob := by rw [swapRoles_frame]
@[simp] theorem swapRoles_serial (t : Tag) (k : SlotNo) (s : State) :
    (swapRoles t k s).serial = s.serial := by rw [swapRoles_frame]
@[simp] theorem swapRoles_pending (t : Tag) (k : SlotNo) (s : State) :
    (swapRoles t k s).pending = s.pending := by rw [swapRoles_frame]

/-- A roll-over touches what its record checks and its change touch (R37, R38). -/
theorem rollOver_frame (p : CondPhase) (q : Option SeqNo) (k : SlotNo) (s : State) :
    rollOver p q k s = { s with
      slots := (rollOver p q k s).slots
      dir := (rollOver p q k s).dir
      intake := (rollOver p q k s).intake
      laneA := (rollOver p q k s).laneA
      laneB := (rollOver p q k s).laneB
      queue := (rollOver p q k s).queue
      conds := (rollOver p q k s).conds
      attention := (rollOver p q k s).attention } := by
  unfold rollOver; split
  · split
    · dsimp only; split
      · rw [swapRoles_frame, recordCheckSome_frame, recordCheck_frame]
      · rw [recordCheckSome_frame, recordCheck_frame]
    · rfl
  · rfl

@[simp] theorem rollOver_recipes (p : CondPhase) (q : Option SeqNo) (k : SlotNo) (s : State) :
    (rollOver p q k s).recipes = s.recipes := by rw [rollOver_frame]
@[simp] theorem rollOver_lastLane (p : CondPhase) (q : Option SeqNo) (k : SlotNo) (s : State) :
    (rollOver p q k s).lastLane = s.lastLane := by rw [rollOver_frame]
@[simp] theorem rollOver_sending (p : CondPhase) (q : Option SeqNo) (k : SlotNo) (s : State) :
    (rollOver p q k s).sending = s.sending := by rw [rollOver_frame]
@[simp] theorem rollOver_unit (p : CondPhase) (q : Option SeqNo) (k : SlotNo) (s : State) :
    (rollOver p q k s).unit = s.unit := by rw [rollOver_frame]
@[simp] theorem rollOver_copy (p : CondPhase) (q : Option SeqNo) (k : SlotNo) (s : State) :
    (rollOver p q k s).copy = s.copy := by rw [rollOver_frame]
@[simp] theorem rollOver_commandBlock (p : CondPhase) (q : Option SeqNo) (k : SlotNo) (s : State) :
    (rollOver p q k s).commandBlock = s.commandBlock := by rw [rollOver_frame]
@[simp] theorem rollOver_resultBlock (p : CondPhase) (q : Option SeqNo) (k : SlotNo) (s : State) :
    (rollOver p q k s).resultBlock = s.resultBlock := by rw [rollOver_frame]
@[simp] theorem rollOver_anchors (p : CondPhase) (q : Option SeqNo) (k : SlotNo) (s : State) :
    (rollOver p q k s).anchors = s.anchors := by rw [rollOver_frame]
@[simp] theorem rollOver_locks (p : CondPhase) (q : Option SeqNo) (k : SlotNo) (s : State) :
    (rollOver p q k s).locks = s.locks := by rw [rollOver_frame]
@[simp] theorem rollOver_commandDone (p : CondPhase) (q : Option SeqNo) (k : SlotNo) (s : State) :
    (rollOver p q k s).commandDone = s.commandDone := by rw [rollOver_frame]
@[simp] theorem rollOver_startRefused (p : CondPhase) (q : Option SeqNo) (k : SlotNo) (s : State) :
    (rollOver p q k s).startRefused = s.startRefused := by rw [rollOver_frame]
@[simp] theorem rollOver_laneDown (p : CondPhase) (q : Option SeqNo) (k : SlotNo) (s : State) :
    (rollOver p q k s).laneDown = s.laneDown := by rw [rollOver_frame]
@[simp] theorem rollOver_mask (p : CondPhase) (q : Option SeqNo) (k : SlotNo) (s : State) :
    (rollOver p q k s).mask = s.mask := by rw [rollOver_frame]
@[simp] theorem rollOver_lockLine (p : CondPhase) (q : Option SeqNo) (k : SlotNo) (s : State) :
    (rollOver p q k s).lockLine = s.lockLine := by rw [rollOver_frame]
@[simp] theorem rollOver_rstLine (p : CondPhase) (q : Option SeqNo) (k : SlotNo) (s : State) :
    (rollOver p q k s).rstLine = s.rstLine := by rw [rollOver_frame]
@[simp] theorem rollOver_power (p : CondPhase) (q : Option SeqNo) (k : SlotNo) (s : State) :
    (rollOver p q k s).power = s.power := by rw [rollOver_frame]
@[simp] theorem rollOver_port (p : CondPhase) (q : Option SeqNo) (k : SlotNo) (s : State) :
    (rollOver p q k s).port = s.port := by rw [rollOver_frame]
@[simp] theorem rollOver_nextJob (p : CondPhase) (q : Option SeqNo) (k : SlotNo) (s : State) :
    (rollOver p q k s).nextJob = s.nextJob := by rw [rollOver_frame]
@[simp] theorem rollOver_serial (p : CondPhase) (q : Option SeqNo) (k : SlotNo) (s : State) :
    (rollOver p q k s).serial = s.serial := by rw [rollOver_frame]
@[simp] theorem rollOver_pending (p : CondPhase) (q : Option SeqNo) (k : SlotNo) (s : State) :
    (rollOver p q k s).pending = s.pending := by rw [rollOver_frame]

/-- A completion touches the Result Block, COMMAND_DONE and the unit state (R156). -/
theorem post_frame (c : CommandCopy) (r : ResultCode) (fields : List Byte) (s : State) :
    post c r fields s = { s with
      unit := (post c r fields s).unit
      resultBlock := (post c r fields s).resultBlock
      commandDone := (post c r fields s).commandDone } := by
  rfl

@[simp] theorem post_slots (c : CommandCopy) (r : ResultCode) (fields : List Byte) (s : State) :
    (post c r fields s).slots = s.slots := by rw [post_frame]
@[simp] theorem post_dir (c : CommandCopy) (r : ResultCode) (fields : List Byte) (s : State) :
    (post c r fields s).dir = s.dir := by rw [post_frame]
@[simp] theorem post_recipes (c : CommandCopy) (r : ResultCode) (fields : List Byte) (s : State) :
    (post c r fields s).recipes = s.recipes := by rw [post_frame]
@[simp] theorem post_intake (c : CommandCopy) (r : ResultCode) (fields : List Byte) (s : State) :
    (post c r fields s).intake = s.intake := by rw [post_frame]
@[simp] theorem post_lastLane (c : CommandCopy) (r : ResultCode) (fields : List Byte) (s : State) :
    (post c r fields s).lastLane = s.lastLane := by rw [post_frame]
@[simp] theorem post_laneA (c : CommandCopy) (r : ResultCode) (fields : List Byte) (s : State) :
    (post c r fields s).laneA = s.laneA := by rw [post_frame]
@[simp] theorem post_laneB (c : CommandCopy) (r : ResultCode) (fields : List Byte) (s : State) :
    (post c r fields s).laneB = s.laneB := by rw [post_frame]
@[simp] theorem post_queue (c : CommandCopy) (r : ResultCode) (fields : List Byte) (s : State) :
    (post c r fields s).queue = s.queue := by rw [post_frame]
@[simp] theorem post_sending (c : CommandCopy) (r : ResultCode) (fields : List Byte) (s : State) :
    (post c r fields s).sending = s.sending := by rw [post_frame]
@[simp] theorem post_conds (c : CommandCopy) (r : ResultCode) (fields : List Byte) (s : State) :
    (post c r fields s).conds = s.conds := by rw [post_frame]
@[simp] theorem post_attention (c : CommandCopy) (r : ResultCode) (fields : List Byte) (s : State) :
    (post c r fields s).attention = s.attention := by rw [post_frame]
@[simp] theorem post_copy (c : CommandCopy) (r : ResultCode) (fields : List Byte) (s : State) :
    (post c r fields s).copy = s.copy := by rw [post_frame]
@[simp] theorem post_commandBlock (c : CommandCopy) (r : ResultCode) (fields : List Byte) (s : State) :
    (post c r fields s).commandBlock = s.commandBlock := by rw [post_frame]
@[simp] theorem post_anchors (c : CommandCopy) (r : ResultCode) (fields : List Byte) (s : State) :
    (post c r fields s).anchors = s.anchors := by rw [post_frame]
@[simp] theorem post_locks (c : CommandCopy) (r : ResultCode) (fields : List Byte) (s : State) :
    (post c r fields s).locks = s.locks := by rw [post_frame]
@[simp] theorem post_startRefused (c : CommandCopy) (r : ResultCode) (fields : List Byte) (s : State) :
    (post c r fields s).startRefused = s.startRefused := by rw [post_frame]
@[simp] theorem post_laneDown (c : CommandCopy) (r : ResultCode) (fields : List Byte) (s : State) :
    (post c r fields s).laneDown = s.laneDown := by rw [post_frame]
@[simp] theorem post_mask (c : CommandCopy) (r : ResultCode) (fields : List Byte) (s : State) :
    (post c r fields s).mask = s.mask := by rw [post_frame]
@[simp] theorem post_lockLine (c : CommandCopy) (r : ResultCode) (fields : List Byte) (s : State) :
    (post c r fields s).lockLine = s.lockLine := by rw [post_frame]
@[simp] theorem post_rstLine (c : CommandCopy) (r : ResultCode) (fields : List Byte) (s : State) :
    (post c r fields s).rstLine = s.rstLine := by rw [post_frame]
@[simp] theorem post_power (c : CommandCopy) (r : ResultCode) (fields : List Byte) (s : State) :
    (post c r fields s).power = s.power := by rw [post_frame]
@[simp] theorem post_port (c : CommandCopy) (r : ResultCode) (fields : List Byte) (s : State) :
    (post c r fields s).port = s.port := by rw [post_frame]
@[simp] theorem post_nextJob (c : CommandCopy) (r : ResultCode) (fields : List Byte) (s : State) :
    (post c r fields s).nextJob = s.nextJob := by rw [post_frame]
@[simp] theorem post_serial (c : CommandCopy) (r : ResultCode) (fields : List Byte) (s : State) :
    (post c r fields s).serial = s.serial := by rw [post_frame]
@[simp] theorem post_pending (c : CommandCopy) (r : ResultCode) (fields : List Byte) (s : State) :
    (post c r fields s).pending = s.pending := by rw [post_frame]

end Sys2Proof.Machine
end

