-- ==== Sys2Proof/Laws/Ops.lean ====
section
/-! SUPPORT. What each shared operation does, said once: conditions, entry to FREE, the directory as a map, the record
check, Start and completion. -/

namespace Sys2Proof.Machine

/-! ## Conditions -/

/-- A raise on a slot with no record creates one and appends the slot (R138, R144). -/
theorem raiseOn_create {r : Raise} {k : SlotNo} {s : State} (h : raisable s k = true) (hc : s.cond k = none) :
    raiseOn r k s = { s.setCond k (some (newRecord r)) with attention := s.attention ++ [k] } := by
  simp [raiseOn, h, hc]

/-- A raise on a slot with a record merges into it, and the slot keeps its place (R139). -/
theorem raiseOn_merge {r : Raise} {k : SlotNo} {s : State} {c : CondRecord} (h : raisable s k = true)
    (hc : s.cond k = some c) : raiseOn r k s = s.setCond k (some (mergeRaise c r)) := by simp [raiseOn, h, hc]

/-- Nothing is raised on a FREE or LOADING slot (R137). -/
theorem raiseOn_not_raisable {r : Raise} {k : SlotNo} {s : State} (h : raisable s k = false) :
    raiseOn r k s = s := by simp [raiseOn, h]

theorem raiseOn_cond (r : Raise) (k j : SlotNo) (s : State) :
    (raiseOn r k s).cond j =
      if k = j ∧ raisable s k = true then
        some (match s.cond k with
              | none => newRecord r
              | some c => mergeRaise c r)
      else s.cond j := by
  cases h : raisable s k
  · simp [raiseOn_not_raisable h]
  · cases hc : s.cond k
    · rw [raiseOn_create h hc]; exact (cond_setCond s k j _).trans (by simp)
    · rw [raiseOn_merge h hc, cond_setCond]; simp

theorem raiseOn_attention (r : Raise) (k : SlotNo) (s : State) :
    (raiseOn r k s).attention =
      if raisable s k = true ∧ s.cond k = none then s.attention ++ [k] else s.attention := by
  cases h : raisable s k
  · simp [raiseOn_not_raisable h]
  · cases hc : s.cond k
    · rw [raiseOn_create h hc]; simp
    · rw [raiseOn_merge h hc]; simp

theorem applyEnding_cond (e : Ending) (k j : SlotNo) (s : State) :
    (applyEnding e k s).cond j =
      if k = j then (s.cond k).map fun c => { c with ending := worse c.ending e } else s.cond j := cond_setCond s k j _

theorem applyEnding_isSome (e : Ending) (k j : SlotNo) (s : State) :
    ((applyEnding e k s).cond j).isSome = (s.cond j).isSome := by
  rw [applyEnding_cond]; split
  · rename_i h; subst h; cases s.cond k <;> rfl
  · rfl

theorem deleteCond_cond (k j : SlotNo) (s : State) : (deleteCond k s).cond j = if k = j then none else s.cond j :=
  cond_setCond s k j none

theorem deleteCond_attention (k : SlotNo) (s : State) :
    (deleteCond k s).attention = s.attention.filter fun j => j != k := rfl

/-! ## Slots -/

theorem slot_of_slots {s t : State} (h : t.slots = s.slots) (j : SlotNo) : t.slot j = s.slot j := by
  simp [State.slot, h]

theorem cond_of_conds {s t : State} (h : t.conds = s.conds) (j : SlotNo) : t.cond j = s.cond j := by
  simp [State.cond, h]

theorem recipe_of_recipes {s t : State} (h : t.recipes = s.recipes) (n : RecipeNo) : t.recipe n = s.recipe n := by
  simp [State.recipe, h]

theorem entry_of_dir {s t : State} (h : t.dir = s.dir) (x : Tag) : t.entry x = s.entry x := by simp [State.entry, h]

theorem freeSlot_slot (k j : SlotNo) (s : State) : (freeSlot k s).slot j = if k = j then none else s.slot j :=
  (slot_setSlot (deleteCond k s) k j none).trans (by rw [slot_of_slots (deleteCond_slots k s)])

theorem freeSlot_cond (k j : SlotNo) (s : State) : (freeSlot k s).cond j = if k = j then none else s.cond j :=
  deleteCond_cond k j s

theorem raiseOn_slot (r : Raise) (k j : SlotNo) (s : State) : (raiseOn r k s).slot j = s.slot j :=
  slot_of_slots (raiseOn_slots r k s) j

theorem applyEnding_slot (e : Ending) (k j : SlotNo) (s : State) : (applyEnding e k s).slot j = s.slot j :=
  slot_of_slots (applyEnding_slots e k s) j

theorem endJobs_slot (ids : List Nat) (v : EndVerdict) (j : SlotNo) (s : State) :
    (endJobs ids v s).slot j = s.slot j := slot_of_slots (endJobs_slots ids v s) j

/-- A quarantine changes the record of its slot alone (R23). -/
theorem quarantine_slot (p : CondPhase) (q : Option SeqNo) (g : CheckGroup) (k j : SlotNo) (s : State) :
    (quarantine p q g k s).slot j = if k = j then (s.slot k).map quarantinedContext else s.slot j := by
  rw [quarantine, applyEnding_slot, raiseOn_slot, endJobs_slot, slot_updateSlot]

/-- A record check that passes changes nothing (R22). -/
theorem recordCheck_pass {p : CondPhase} {q : Option SeqNo} {k : SlotNo} {s : State}
    (h : (s.slot k).bind failingGroup = none) : recordCheck p q k s = s := by simp [recordCheck, h]

/-- A record check that fails quarantines (R23). -/
theorem recordCheck_fail {p : CondPhase} {q : Option SeqNo} {k : SlotNo} {s : State} {g : CheckGroup}
    (h : (s.slot k).bind failingGroup = some g) : recordCheck p q k s = quarantine p q g k s := by
  simp [recordCheck, h]

/-- A record whose three groups agree passes the check (R22). -/
theorem failingGroup_of_agree {c : Context} (h : c.checks = ⟨true, true, true⟩) : failingGroup c = none := by
  simp [failingGroup, h]

/-- No damage leaves the state as it is. -/
@[simp] theorem damage_nil (s : State) : damage [] s = s := rfl

/-! ## The directory as a map -/

theorem tag_lt_trans {a b c : Tag} (h : a < b) (g : b < c) : a < c := by simp only [BitVec.lt_def] at *; omega

theorem tag_ne_of_lt {a b : Tag} (h : a < b) : a ≠ b := fun e => by subst e; simp at h

theorem tag_lt_of_not {a b : Tag} (h : ¬a < b) (g : a ≠ b) : b < a := by
  have : a.toNat ≠ b.toNat := fun e => g (BitVec.eq_of_toNat_eq e)
  simp only [BitVec.lt_def] at *; omega

theorem dirLookup_dirCons_self (t : Tag) (e : DirEntry) (d : List (Tag × DirEntry)) (h : dirLookup d t = DirEntry.empty) :
    dirLookup (dirCons t e d) t = e := by
  unfold dirCons; split
  · rename_i he; rw [h, he]
  · simp [dirLookup]

theorem dirLookup_dirCons_ne {t u : Tag} (e : DirEntry) (d : List (Tag × DirEntry)) (h : u ≠ t) :
    dirLookup (dirCons t e d) u = dirLookup d u := by
  unfold dirCons; split
  · rfl
  · simp [dirLookup, h]

/-- A tag below every tag of a directory is unknown to it. -/
theorem dirLookup_of_lt {d : List (Tag × DirEntry)} {t : Tag} (h : ∀ p ∈ d, t < p.1) :
    dirLookup d t = DirEntry.empty := by
  induction d with
  | nil => rfl
  | cons p d ih =>
    have hp : t ≠ p.1 := tag_ne_of_lt (h p (by simp))
    simp [dirLookup, hp, ih fun q hq => h q (by simp [hq])]

/-- Storing an entry changes the lookup of its tag alone, in a directory with its tags rising (R27). -/
theorem dirLookup_dirStore (d : List (Tag × DirEntry)) (t u : Tag) (e : DirEntry)
    (h : d.Pairwise fun a b => a.1 < b.1) :
    dirLookup (dirStore d t e) u = if u = t then e else dirLookup d u := by
  induction d with
  | nil =>
    by_cases hu : u = t
    · subst hu; simp [dirStore, dirLookup_dirCons_self _ _ _ (show dirLookup [] u = DirEntry.empty from rfl)]
    · simp [dirStore, dirLookup_dirCons_ne _ _ hu, hu]
  | cons p d ih =>
    obtain ⟨x, f⟩ := p
    rw [List.pairwise_cons] at h
    by_cases h1 : t < x
    · have hx : dirLookup ((x, f) :: d) t = DirEntry.empty :=
        dirLookup_of_lt fun q hq => by
          rcases List.mem_cons.1 hq with rfl | hq
          · exact h1
          · exact tag_lt_trans h1 (h.1 q hq)
      by_cases hu : u = t
      · subst hu; simp [dirStore, h1, dirLookup_dirCons_self _ _ _ hx]
      · simp only [dirStore, h1, if_true, hu, if_false]; exact dirLookup_dirCons_ne _ _ hu
    · by_cases h2 : t = x
      · subst h2
        have hx : dirLookup d t = DirEntry.empty := dirLookup_of_lt h.1
        by_cases hu : u = t
        · subst hu; simp [dirStore, dirLookup_dirCons_self _ _ _ hx]
        · simp [dirStore, dirLookup_dirCons_ne _ _ hu, hu, dirLookup]
      · have h3 : x ≠ t := fun hh => h2 hh.symm
        by_cases hu : u = x
        · subst hu; simp [dirStore, h1, h2, h3, dirLookup]
        · simp only [dirStore, h1, h2, if_false, dirLookup, hu]; exact ih h.2

/-- Storing an entry under a tag in use keeps the directory's form: tags rising, in use, no empty entry (R27). -/
theorem dirStore_formed (d : List (Tag × DirEntry)) (t : Tag) (e : DirEntry) (ht : t ≠ 0)
    (h : d.Pairwise fun a b => a.1 < b.1) (hd : ∀ p ∈ d, p.1 ≠ 0 ∧ p.2 ≠ DirEntry.empty) :
    ((dirStore d t e).Pairwise fun a b => a.1 < b.1) ∧ (∀ p ∈ dirStore d t e, p.1 ≠ 0 ∧ p.2 ≠ DirEntry.empty) ∧
      ∀ p ∈ dirStore d t e, p.1 = t ∨ p ∈ d := by
  induction d with
  | nil => unfold dirStore dirCons; split <;> simp_all
  | cons p d ih =>
    obtain ⟨x, f⟩ := p
    have hp := List.pairwise_cons.1 h
    by_cases h1 : t < x
    · have hlt : ∀ q ∈ (x, f) :: d, t < q.1 := fun q hq => by
        rcases List.mem_cons.1 hq with rfl | hq
        · exact h1
        · exact tag_lt_trans h1 (hp.1 q hq)
      simp only [dirStore, h1, if_true]
      unfold dirCons; split
      · exact ⟨h, hd, fun p hp => .inr hp⟩
      · rename_i he
        refine ⟨List.pairwise_cons.2 ⟨hlt, h⟩, ?_, ?_⟩
        · intro p hp; rcases List.mem_cons.1 hp with rfl | hp
          · exact ⟨ht, he⟩
          · exact hd p hp
        · intro p hp; rcases List.mem_cons.1 hp with rfl | hp
          · exact .inl rfl
          · exact .inr hp
    · by_cases h2 : t = x
      · subst h2
        simp only [dirStore, h1, if_true, if_false]
        unfold dirCons; split
        · exact ⟨hp.2, fun p hp => hd p (List.mem_cons_of_mem _ hp), fun p hp => .inr (List.mem_cons_of_mem _ hp)⟩
        · rename_i he
          refine ⟨List.pairwise_cons.2 ⟨hp.1, hp.2⟩, ?_, ?_⟩
          · intro p hp; rcases List.mem_cons.1 hp with rfl | hp
            · exact ⟨ht, he⟩
            · exact hd p (List.mem_cons_of_mem _ hp)
          · intro p hp; rcases List.mem_cons.1 hp with rfl | hp
            · exact .inl rfl
            · exact .inr (List.mem_cons_of_mem _ hp)
      · simp only [dirStore, h1, h2, if_false]
        obtain ⟨i1, i2, i3⟩ := ih hp.2 fun p hp => hd p (List.mem_cons_of_mem _ hp)
        refine ⟨List.pairwise_cons.2 ⟨?_, i1⟩, ?_, ?_⟩
        · intro q hq
          rcases i3 q hq with e1 | e1
          · show x < q.1
            rw [e1]; exact tag_lt_of_not h1 h2
          · exact hp.1 q e1
        · intro p hp; rcases List.mem_cons.1 hp with rfl | hp
          · exact hd _ (by simp)
          · exact i2 p hp
        · intro p hp; rcases List.mem_cons.1 hp with rfl | hp
          · exact .inr (by simp)
          · exact (i3 p hp).imp id (List.mem_cons_of_mem _)

/-- The entries read after one is stored (R27). -/
theorem entry_setEntry (s : State) (t u : Tag) (e : DirEntry) (h : s.dir.Pairwise fun a b => a.1 < b.1) :
    (s.setEntry t e).entry u = if u = t then e else s.entry u := dirLookup_dirStore s.dir t u e h

/-! ## Start and completion -/

/-- Until start-up has ended a step of the part changes nothing (R196). -/
theorem whenRunning_not {f : State → State} {s : State} (h : s.power ≠ .running) : whenRunning f s = s := if_neg h

theorem whenRunning_running {f : State → State} {s : State} (h : s.power = .running) : whenRunning f s = f s := if_pos h

/-- Until start-up has ended Start writes are not taken (R175, R196). -/
theorem writeStart_not {code : Byte} {run : CommandCopy → State → State} {s : State} (h : s.power ≠ .running) :
    writeStart code run s = s := if_pos h

/-- A Start while EXECUTING sets START_REFUSED alone (R155). -/
theorem writeStart_executing {code : Byte} {run : CommandCopy → State → State} {s : State} (h : s.power = .running)
    (hu : s.unit ≠ .idle) : writeStart code run s = { s with startRefused := true } := by simp [writeStart, h, hu]

/-- A Start taken in IDLE (R154). -/
theorem writeStart_idle {code : Byte} {run : CommandCopy → State → State} {s : State} (h : s.power = .running)
    (hu : s.unit = .idle) :
    writeStart code run s =
      run (copyAtStart code s) { s with copy := some (copyAtStart code s), commandDone := false } := by
  simp [writeStart, h, hu]

/-- A guarded command with LOCK# asserted at its Start (R159). -/
theorem guarded_asserted {c : CommandCopy} {report : List Byte} {go : State → State} {s : State}
    (h : c.lockAsserted = true) : guarded c report go s = post c .lockLine report s := if_pos h

theorem guarded_released {c : CommandCopy} {report : List Byte} {go : State → State} {s : State}
    (h : c.lockAsserted = false) : guarded c report go s = go s := by simp [guarded, h]

@[simp] theorem copyAtStart_code (code : Byte) (s : State) : (copyAtStart code s).code = code := rfl
@[simp] theorem copyAtStart_block (code : Byte) (s : State) : (copyAtStart code s).block = s.commandBlock := rfl
@[simp] theorem copyAtStart_lockAsserted (code : Byte) (s : State) : (copyAtStart code s).lockAsserted = s.lockLine := rfl

end Sys2Proof.Machine
end

