-- ==== Sys2Proof/Laws/PerInstr.lean ====
section
/-! SUPPORT. The family StartCodes: a row that is a Start write of its own code writes a code of Table 10-8, so that it is
never a BAD_COMMAND; one lemma per command. -/

namespace Sys2Proof.Laws.StartCodes

/-- The code the command writes to Start, if it writes one of its own, names a command (R158, Table 10-8). -/
def Statement (i : Instr) : Prop := ∀ code : Byte, i.startCode = some code → commandCodes.contains code = true

theorem jobFirstWord (w : FrameWord) : Statement (.jobFirstWord w) := by
  intro code h; cases h

theorem jobHeader (w : FrameWord) (atLookup atRoll : List Damage) : Statement (.jobHeader w atLookup atRoll) := by
  intro code h; cases h

theorem frameWord (w : FrameWord) : Statement (.frameWord w) := by
  intro code h; cases h

theorem discardWord (w : FrameWord) : Statement (.discardWord w) := by
  intro code h; cases h

theorem stageToWork (l : LaneId) : Statement (.stageToWork l) := by
  intro code h; cases h

theorem keyFetch (l : LaneId) : Statement (.keyFetch l) := by
  intro code h; cases h

theorem header (l : LaneId) : Statement (.header l) := by
  intro code h; cases h

theorem body (l : LaneId) : Statement (.body l) := by
  intro code h; cases h

theorem tag (l : LaneId) : Statement (.tag l) := by
  intro code h; cases h

theorem workToOut (l : LaneId) : Statement (.workToOut l) := by
  intro code h; cases h

theorem laneFault (l : LaneId) : Statement (.laneFault l) := by
  intro code h; cases h

theorem release (atRead atRoll : List Damage) : Statement (.release atRead atRoll) := by
  intro code h; cases h

theorem resultWord : Statement .resultWord := by
  intro code h; cases h

theorem drainTimerExpiry (k : SlotNo) : Statement (.drainTimerExpiry k) := by
  intro code h; cases h

theorem install : Statement .install := by
  intro code h; cases h; decide

theorem succeed (found : List Damage) : Statement (.succeed found) := by
  intro code h; cases h; decide

theorem unwrapCompletion : Statement .unwrapCompletion := by
  intro code h; cases h

theorem activate (found : List Damage) : Statement (.activate found) := by
  intro code h; cases h; decide

theorem retire (found : List Damage) : Statement (.retire found) := by
  intro code h; cases h; decide

theorem modify (found : List Damage) : Statement (.modify found) := by
  intro code h; cases h; decide

theorem purge : Statement .purge := by
  intro code h; cases h; decide

theorem query (found : List Damage) : Statement (.query found) := by
  intro code h; cases h; decide

theorem queryTag : Statement .queryTag := by
  intro code h; cases h; decide

theorem softReset : Statement .softReset := by
  intro code h; cases h; decide

theorem writeRecipe : Statement .writeRecipe := by
  intro code h; cases h; decide

theorem clearRecipe : Statement .clearRecipe := by
  intro code h; cases h; decide

theorem readRecipe : Statement .readRecipe := by
  intro code h; cases h; decide

theorem abortLanes : Statement .abortLanes := by
  intro code h; cases h; decide

theorem restoreLane : Statement .restoreLane := by
  intro code h; cases h; decide

theorem collect : Statement .collect := by
  intro code h; cases h; decide

theorem collectNext : Statement .collectNext := by
  intro code h; cases h; decide

theorem programAnchor : Statement .programAnchor := by
  intro code h; cases h; decide

theorem anchorProgramComplete (readBack : Option AnchorKey) : Statement (.anchorProgramComplete readBack) := by
  intro code h; cases h

theorem revokeAnchor : Statement .revokeAnchor := by
  intro code h; cases h; decide

theorem anchorRevokeComplete (readBack : AnchorState) : Statement (.anchorRevokeComplete readBack) := by
  intro code h; cases h

theorem readAnchorState : Statement .readAnchorState := by
  intro code h; cases h; decide

theorem setLock : Statement .setLock := by
  intro code h; cases h; decide

theorem clearLock : Statement .clearLock := by
  intro code h; cases h; decide

theorem readLocks : Statement .readLocks := by
  intro code h; cases h; decide

theorem badCommand (code : Byte) : Statement (.badCommand code) := by
  intro code h; cases h

theorem startRefused (code : Byte) : Statement (.startRefused code) := by
  intro code h; cases h

theorem interruptFlagsWrite (b : Byte) : Statement (.interruptFlagsWrite b) := by
  intro code h; cases h

theorem interruptMaskWrite (b : Byte) : Statement (.interruptMaskWrite b) := by
  intro code h; cases h

theorem registerWrite (addr b : Byte) : Statement (.registerWrite addr b) := by
  intro code h; cases h

theorem lockLineLevel (asserted : Bool) : Statement (.lockLineLevel asserted) := by
  intro code h; cases h

theorem rstAssert : Statement .rstAssert := by
  intro code h; cases h

theorem rstRelease : Statement .rstRelease := by
  intro code h; cases h

theorem powerOn : Statement .powerOn := by
  intro code h; cases h

theorem powerLoss : Statement .powerLoss := by
  intro code h; cases h

theorem startupEnd : Statement .startupEnd := by
  intro code h; cases h

end Sys2Proof.Laws.StartCodes
end

