-- ==== Sys2Proof/Laws/Port.lean ====
section
/-! SUPPORT. The Management Port: what one byte, and one bit, of a transaction does (R189). -/

namespace Sys2Proof.Machine

/-! ## Bits and bytes -/

@[simp] theorem byteOfBits_bitsOfByte : ∀ b : Byte, byteOfBits (bitsOfByte b) = b := by decide

@[simp] theorem bitsOfByte_length (b : Byte) : (bitsOfByte b).length = 8 := rfl

theorem byteOfBits_bits (b : Byte) : byteOfBits [b[7], b[6], b[5], b[4], b[3], b[2], b[1], b[0]] = b :=
  byteOfBits_bitsOfByte b

/-! ## Sequences of events -/

theorem lines_append (s : State) (a b : List SerialEvent) : s.lines (a ++ b) = (s.lines a).lines b := List.foldl_append ..

theorem samples_append (a b : List SerialEvent) : ∀ s : State, samples (a ++ b) s = samples a s ++ samples b (s.lines a) := by
  induction a with
  | nil => intro s; rfl
  | cons e a ih => intro s; cases e <;> simp [samples, ih] <;> rfl

/-! ## The first two bytes -/

theorem lines_csFall {s : State} (hr : s.power = .running) (hd : s.port = .deselected) :
    s.lines [.csFall] = { s with port := .instruction [] } := by
  simp [State.lines, serialEvent, fallCs, hr, hd]

/-- The instruction byte makes the port READ, WRITE or ignore the rest (Table 10-1). -/
theorem lines_instruction {s : State} (hr : s.power = .running) (b : Byte) :
    ({ s with port := .instruction [] } : State).lines (bytePins b) = { s with port := afterInstruction b } := by
  have h : afterInstruction b = .address true [] ∨ afterInstruction b = .address false [] ∨
      afterInstruction b = .ignoring := by
    unfold afterInstruction
    split
    · simp
    · split <;> simp
  simp only [bytePins, bitsOfByte, State.lines, List.flatMap_cons, List.flatMap_nil, List.cons_append, List.nil_append,
    List.foldl_cons, List.foldl_nil, List.append_nil]
  simp only [serialEvent, whenRunning, hr, riseSck, receive, fallSck]
  simp only [List.nil_append, List.cons_append, List.length_cons, List.length_nil, Nat.reduceAdd, Nat.reduceLT, if_true,
    if_false, BitVec.getLsbD_eq_getElem, byteOfBits_bits]
  rcases h with h | h | h <;> simp [h]

/-- The address byte of a WRITE. -/
theorem lines_writeAddress {s : State} (hr : s.power = .running) (b : Byte) :
    ({ s with port := .address false [] } : State).lines (bytePins b) = { s with port := .writing b [] } := by
  simp only [bytePins, bitsOfByte, State.lines, List.flatMap_cons, List.flatMap_nil, List.cons_append, List.nil_append,
    List.foldl_cons, List.foldl_nil, List.append_nil]
  simp [serialEvent, whenRunning, hr, riseSck, receive, fallSck, afterAddress, byteOfBits_bits]

/-- The address byte of a READ, up to its eighth bit: the Result Block is captured (R156). -/
theorem lines_readAddress {s : State} (hr : s.power = .running) (b : Byte) :
    ({ s with port := .address true [] } : State).lines (bytePins b).dropLast =
      { s with port := .reading ⟨b, s.resultBlock, none, [], none⟩ } := by
  simp only [bytePins, bitsOfByte, State.lines, List.flatMap_cons, List.flatMap_nil, List.cons_append, List.nil_append,
    List.foldl_cons, List.foldl_nil, List.append_nil, List.dropLast]
  simp [serialEvent, whenRunning, hr, riseSck, receive, fallSck, afterAddress, byteOfBits_bits]

/-! ## Data -/

theorem exec_startRow (code : Byte) (s : State) : exec (startRow code) s = .next (startByte code s) := by
  unfold startRow
  by_cases hk : code ∈ commandCodes
  · simp only [commandCodes, List.mem_cons, List.not_mem_nil, or_false] at hk
    rcases hk with h|h|h|h|h|h|h|h|h|h|h|h|h|h|h|h|h|h|h|h|h|h <;> subst h <;> rfl
  · simp only [commandCodes, List.mem_cons, List.not_mem_nil, or_false, not_or] at hk
    simp only [hk, if_false]
    rfl

/-- The row of a location takes the byte as the location does (R190). -/
theorem exec_writeRow (addr b : Byte) {s : State} (hr : s.power = .running) :
    exec (writeRow addr b) s = .next (writeWindow addr b s) := by
  unfold writeRow
  split
  · subst_vars; simp [exec, execInterruptFlagsWrite, whenRunning, hr, writeWindow]
  · split
    · subst_vars; simp [exec, execInterruptMaskWrite, whenRunning, hr, writeWindow]
    · split
      · subst_vars; rw [exec_startRow]; simp [writeWindow]
      · simp [exec, execRegisterWrite, whenRunning, hr]

@[simp] theorem windowByte_port (s : State) (p : Port) (addr : Byte) :
    windowByte addr { s with port := p } = windowByte addr s := rfl

/-- With nothing between the bits of a READ, it shows what its locations hold. -/
theorem shown_fresh (s : State) (addr : Byte) (low : Option Byte) (shift : List Bool) (bit : Option Bool)
    (h : low = none ∨ low = some (windowByte 0x04 s)) :
    (⟨addr, s.resultBlock, low, shift, bit⟩ : Reading).shown s = windowByte addr s := by
  unfold Reading.shown
  split
  · rename_i h
    simp only at h ⊢
    have h1 : 0x80 ≤ addr.toNat := by simpa [BitVec.le_def] using h.1
    have h2 : addr.toNat ≤ 0xDF := by simpa [BitVec.le_def] using h.2
    unfold windowByte
    simp only [BitVec.le_def, ← BitVec.toNat_inj]
    simp
    repeat (rw [if_neg (by omega)])
    rw [if_pos (by omega)]
  · split
    · rename_i _ h2
      simp only at h2
      subst h2
      rcases h with rfl | rfl <;> rfl
    · rfl

theorem sckRise_reading {s : State} (hr : s.power = .running) (r : Reading) (x : Bool) :
    serialEvent (.sckRise x) { s with port := .reading r } = { s with port := .reading r } := by
  simp [serialEvent, whenRunning, hr, riseSck]

theorem sckFall_reading {s : State} (hr : s.power = .running) (r : Reading) :
    serialEvent .sckFall { s with port := .reading r } =
      { s with port := .reading (r.drive { s with port := .reading r }) } := by
  simp [serialEvent, whenRunning, hr, fallSck]

/-! ## Events and the other fields -/

/-- No event of the serial line but a whole byte of a WRITE changes anything but the port. -/
theorem serialEvent_frame (e : SerialEvent) (s : State)
    (h : ∀ addr bits x, s.port = .writing addr bits → e = .sckRise x → bits.length < 7) :
    serialEvent e s = { s with port := (serialEvent e s).port } := by
  cases e with
  | csFall => simp only [serialEvent, fallCs]; split <;> rfl
  | csRise => rfl
  | sckFall =>
    simp only [serialEvent, whenRunning, fallSck]
    split
    · split <;> rfl
    · rfl
  | sckRise x =>
    simp only [serialEvent, whenRunning]
    split
    · simp only [riseSck, receive]
      split
      · split <;> rfl
      · split <;> rfl
      · rename_i addr bits hp
        rw [if_pos (h addr bits x hp rfl)]
      · rfl
      · rfl
      · rfl
    · rfl

end Sys2Proof.Machine
end

