-- ==== Sys2Proof/Laws/Statements.lean ====
section
/-! SUPPORT. What each definition of Safety.lean that the statements are written in is in the model: damage, a Start taken
and completed, admission, FREE slots, the dispatch of a frame and the release of an entry. -/

namespace Sys2Proof.Machine

/-! ## Damage -/

/-- What one damage does to the check values of a slot. -/
def damagedOnce (d : Damage) (k : SlotNo) (x : Checks) : Checks :=
  if d.slot = k then
    match d.group with
    | .key => { x with keyOk := false }
    | .counters => { x with countersOk := false }
    | .settings => { x with settingsOk := false }
  else x

/-- What a list of damage does to the check values of a slot. -/
def damaged : List Damage → SlotNo → Checks → Checks
  | [], _, x => x
  | d :: ds, k, x => damaged ds k (damagedOnce d k x)

/-- Damage changes the check values of records and nothing else of them (assumption 3). -/
theorem damage_slot (ds : List Damage) (s : State) (k : SlotNo) :
    (damage ds s).slot k = (s.slot k).map fun c => { c with checks := damaged ds k c.checks } := by
  induction ds generalizing s with
  | nil => simp [damage, damaged]
  | cons d ds ih =>
    refine (ih (damageOne s d)).trans ?_
    simp only [damageOne, slot_updateSlot, damaged, damagedOnce]
    split
    · rename_i h; subst h; cases s.slot d.slot with
      | none => rfl
      | some c => cases d.group <;> simp
    · simp

theorem damage_slots_congr (ds : List Damage) (s t : State) (h : s.slots = t.slots) :
    (damage ds s).slots = (damage ds t).slots := by
  induction ds generalizing s t with
  | nil => exact h
  | cons d ds ih =>
    refine ih _ _ ?_
    simp [damageOne, State.updateSlot, State.setSlot, State.slot, h]

theorem damage_cond (ds : List Damage) (s : State) (k : SlotNo) : (damage ds s).cond k = s.cond k :=
  cond_of_conds (by simp) k

theorem damage_entry (ds : List Damage) (s : State) (t : Tag) : (damage ds s).entry t = s.entry t :=
  entry_of_dir (by simp) t

theorem damage_recipe (ds : List Damage) (s : State) (n : RecipeNo) : (damage ds s).recipe n = s.recipe n :=
  recipe_of_recipes (by simp) n

theorem damage_slotMarker (ds : List Damage) (s : State) (k : SlotNo) :
    slotMarker (damage ds s) k = slotMarker s k := by
  simp only [slotMarker, damage_slot]
  cases s.slot k <;> simp [Context.marker]

theorem damage_slotIs (ds : List Damage) (s : State) (k : SlotNo) (x : CtxState) :
    (damage ds s).slotIs k x = s.slotIs k x := by
  simp only [State.slotIs, damage_slot]
  cases s.slot k <;> simp

theorem damage_slotLocked (ds : List Damage) (s : State) (k : SlotNo) :
    slotLocked (damage ds s) k = slotLocked s k := by
  simp only [slotLocked, damage_slot, tagLocked, damage_locks]
  cases s.slot k <;> simp

theorem damage_anchor (ds : List Damage) (s : State) (a : AnchorNo) : (damage ds s).anchor a = s.anchor a := by
  simp [State.anchor]

theorem damage_free (ds : List Damage) (s : State) (k : SlotNo) : (damage ds s).slot k = none ↔ s.slot k = none := by
  simp [damage_slot]

/-- Damage and the taking of a Start touch different fields. -/
theorem damage_copied (ds : List Damage) (code : Byte) (s : State) :
    damage ds (s.copied code) = (damage ds s).copied code := by
  rw [damage_frame ds (s.copied code), damage_slots_congr ds (s.copied code) s rfl]
  conv_rhs => rw [damage_frame ds s]
  rfl

/-! ## Start and completion -/

/-- A Start taken (R154). -/
theorem writeStart_ready {code : Byte} {run : CommandCopy → State → State} {s : State} (h : CommandReady s) :
    writeStart code run s = run (copyAtStart code s) (s.copied code) := by
  rw [writeStart_idle h.running h.idle]; rfl

/-- A completion after changes made on the state in which the Start was taken (R154, R156). -/
theorem post_answered {code : Byte} {r : ResultCode} {f : List Byte} {s u : State}
    (hb : u.commandBlock = s.commandBlock) (hl : u.lockLine = s.lockLine) :
    post (copyAtStart code s) r f (u.copied code) = u.answered code r f := by
  simp [post, copyAtStart, State.copied, State.answered, hb, hl]

theorem post_damage (code : Byte) (r : ResultCode) (f : List Byte) (ds : List Damage) (s : State) :
    post (copyAtStart code s) r f (damage ds (s.copied code)) = (damage ds s).answered code r f := by
  rw [damage_copied]; exact post_answered (by simp) (by simp)

/-! ## Admission, FREE slots -/

theorem admissionTest_of_admits {s : State} {t : Tag} {b m : Bool} (h : Admits s t b m) :
    admissionTest s t b m = none := by
  unfold admissionTest
  have h1 : ¬2 ≤ (s.entry t).bound.length := by have := h.room; omega
  have h2 : ((s.entry t).bound.any fun b => slotMarker s b.1 == some m) = false := by
    rw [List.any_eq_false]; intro x hx; simpa using h.marker x hx
  simp only [h1, if_false, h2]
  rw [h.place]; rfl

theorem admissionTest_of_fails {s : State} {t : Tag} {b m : Bool} {r : ResultCode} (h : AdmissionFails s t b m r) :
    admissionTest s t b m = some r := by
  unfold admissionTest
  rcases h with ⟨h, rfl⟩ | ⟨h1, h2, rfl⟩ | ⟨h1, h2, ⟨x, hx, hm⟩, rfl⟩
  · simp [h]
  · have h3 : ¬2 ≤ (s.entry t).bound.length := by omega
    simp only [h3, if_false]
    rw [if_pos (Option.isSome_iff_ne_none.2 h2)]
  · have h3 : ¬2 ≤ (s.entry t).bound.length := by omega
    simp only [h3, if_false, h2]
    have h4 : ((s.entry t).bound.any fun b => slotMarker s b.1 == some m) = true := by
      rw [List.any_eq_true]; exact ⟨x, hx, by simp [hm]⟩
    simp [h4]

theorem firstFree_of_lowest {s : State} {k : SlotNo} (h : LowestFree s k) : firstFree s = some k := by
  unfold firstFree
  rw [List.find?_eq_some_iff_getElem]
  refine ⟨by simp [h.free], k.val, by simp, by simp, ?_⟩
  intro j hj
  have := h.lowest ⟨j, by omega⟩ hj
  simp [Option.isSome_iff_ne_none, this]

theorem firstFree_of_none {s : State} (h : ∀ k, s.slot k ≠ none) : firstFree s = none := by
  unfold firstFree; rw [List.find?_eq_none]; intro k _; simp [h k]

theorem anchorKey_of_usable {s : State} {a : AnchorNo} {key : AnchorKey} (h : Usable s a key) :
    anchorKey s a = some key := by
  unfold anchorKey; rw [h.1]; exact h.2

theorem anchorKey_of_not {s : State} {a : AnchorNo} (h : (s.anchor a).state ≠ .programmed) :
    anchorKey s a = none := by
  unfold anchorKey; split <;> first | rfl | (rename_i hh; exact absurd hh h)

/-! ## Slots -/

theorem updateSlot_of_some {s : State} {k : SlotNo} {c : Context} {f : Context → Context} (h : s.slot k = some c) :
    s.updateSlot k f = s.setSlot k (some (f c)) := by
  simp [State.updateSlot, h]

theorem setSlot_setSlot (s : State) (k : SlotNo) (a b : Option Context) :
    (s.setSlot k a).setSlot k b = s.setSlot k b := by simp [State.setSlot]

theorem freeSlot_setSlot (s : State) (k : SlotNo) (c : Option Context) :
    freeSlot k (s.setSlot k c) = freeSlot k s := by simp [freeSlot, deleteCond, State.setSlot, State.setCond]

theorem recordCheck_intact {s : State} {k : SlotNo} {c : Context} {p : CondPhase} {q : Option SeqNo}
    (h : Intact s k c) : recordCheck p q k s = s := recordCheck_pass (by simp [h.1, h.2])

/-! ## Dispatch -/

theorem damage_anyOnline (ds : List Damage) (s : State) : anyOnline (damage ds s) = anyOnline s := by simp [anyOnline]

theorem damage_accepting (ds : List Damage) (s : State) : accepting (damage ds s) = accepting s := by
  simp [accepting, anyOnline]

theorem damage_heldByRecord (ds : List Damage) (s : State) (k : SlotNo) :
    heldByRecord (damage ds s) k = heldByRecord s k := by simp [heldByRecord, damage_cond]

theorem slotHeld_of_slot {s : State} {k : SlotNo} {c : Context} (h : s.slot k = some c) :
    slotHeld s k = (c.state == .quarantined || heldByRecord s k) := by simp [slotHeld, State.slotIs, h]

/-- A job sent to a lane is the reservation of its sequence followed by `State.toLane` (R84 to R87). -/
theorem dispatchToLane_eq (w : FrameWord) (j : Job) (b : Nat) (s : State) :
    dispatchToLane w j b s = (reserve j.dir b j.slot s).toLane w j (chooseLane s) := by
  unfold dispatchToLane State.toLane placeJob countInFlight endFraming
  cases chooseLane s <;> rfl

/-- The second word of a Job Header goes to the checks (R76). -/
theorem exec_jobHeader {s : State} {w0 : Word} {w : FrameWord} (h : HeaderTaken s w0 w) (ds dr : List Damage) :
    exec (.jobHeader w ds dr) s = .next (takeJobHeader dr w0 w (damage ds s)) := by
  simp [exec, execJobHeader, whenRunning, h.running, frameInWord, h.held, damage_accepting, h.accepts, wordInJobWord,
    h.second]

/-- With checks 1 to 3 passed and a slot found, the record is checked and checks 5 to 8 follow (R76 to R82). -/
theorem exec_jobHeader_found {s : State} {w0 : Word} {w : FrameWord} {d : RecipeDef} {layout : List (StepKind × Nat)}
    {k : SlotNo} (h : HeaderFinds s w0 w d layout k) (ds dr : List Damage) :
    exec (.jobHeader w ds dr) s = .next (settleDispatch w (jobHeaderOf w0 w.data) d layout
      (checksUnder dr (jobHeaderOf w0 w.data) (metered layout) k (recordCheck .dispatch none k (damage ds s)))) := by
  rw [exec_jobHeader h.toHeaderTaken]
  have hl : lookupSlot (jobHeaderOf w0 w.data) (damage ds s) = .ok k := by
    have hf := h.finds
    unfold Finds at hf
    unfold lookupSlot
    cases hd : (jobHeaderOf w0 w.data).dir
    · simp only [hd] at hf
      simp [damage_entry, hf]
      intro he; simp [he, DirEntry.empty] at hf
    · simp only [hd] at hf
      obtain ⟨⟨p, hp⟩, hm, hu⟩ := hf
      simp only [damage_entry, damage_slotMarker]
      cases hfi : (s.entry (jobHeaderOf w0 w.data).tag).bound.find?
          fun b => slotMarker s b.1 == some (jobHeaderOf w0 w.data).marker with
      | none =>
        rw [List.find?_eq_none] at hfi
        have := hfi _ hp
        simp [hm] at this
      | some b =>
        have h1 := List.find?_some hfi
        have h2 := List.mem_of_find?_eq_some hfi
        simp only [beq_iff_eq] at h1
        simp [hu b h2 h1]
  simp [takeJobHeader, damage_anyOnline, h.online, damage_recipe, h.defined, h.resolved, checksFromLookup, hl]

/-- Checks 5 to 7 pass under an admissible slot (R80, R81). -/
theorem slotChecks_admissible {s : State} {ds : List Damage} {h : JobHeader} {k : SlotNo} {c : Context}
    (hi : Intact (damage ds s) k c) (ha : Admissible s h k c) : slotChecks h k (damage ds s) = none := by
  unfold slotChecks
  simp [hi.1, slotHeld_of_slot hi.1, damage_heldByRecord, ha.sound, ha.free, ha.direction]
  simpa using ha.recipe

/-! ## Release -/

/-- The end of a LANE entry's release is `State.leaving` (R126 to R128). -/
theorem sendLane_leaving (e : LaneEntry) (v : Verdict) (n : Nat) (s : State) :
    sendLane e v n (countReleased e.job.slot e.job.recipe (endingAtRelease v e.job.slot s)) = s.leaving e v n := by
  unfold State.leaving sendLane countReleased endingAtRelease freeIfRetired emptyOut
  simp only
  generalize (if v.endsFinished = true then applyEnding Ending.finished e.job.slot s else s) = u
  generalize hw : ((u.updateSlot e.job.slot fun c => { c with inFlight := c.inFlight - 1 }).setRecipe e.job.recipe
    { u.recipe e.job.recipe with inFlight := (u.recipe e.job.recipe).inFlight - 1 }) = w
  have hw' : (State.setRecipe (State.updateSlot u e.job.slot fun c => { c with inFlight := c.inFlight - 1 }) e.job.recipe
      { State.recipe (State.updateSlot u e.job.slot fun c => { c with inFlight := c.inFlight - 1 }) e.job.recipe with
        inFlight := (State.recipe (State.updateSlot u e.job.slot fun c => { c with inFlight := c.inFlight - 1 })
          e.job.recipe).inFlight - 1 }) = w := hw
  simp only [hw']
  cases hs : w.slot e.job.slot with
  | none => simp
  | some c => simp only [Option.any_some, Bool.and_eq_true, beq_iff_eq]

/-- The release of a LANE entry that is not PENDING (R117, R118). -/
theorem exec_release_lane {s : State} {e : LaneEntry} {rest : List Entry} (h : HeadFree s (.lane e) rest)
    (hne : e.status ≠ .pending) (ds dr : List Damage) :
    exec (.release ds dr) s =
      .next (let r := decideRelease ds dr e { s with queue := rest }; r.1.leaving e r.2.1 r.2.2) := by
  simp only [exec, execRelease, whenRunning, h.running, if_true, releaseHead, h.idle, h.head]
  rw [if_pos (by simpa [Entry.ready] using hne)]
  simp only [releaseLane, sendLane_leaving]

/-- The release of a FINISHED entry whose slot's record passes its check (R120 to R125). -/
theorem exec_release_finished {s : State} {ds : List Damage} {e : LaneEntry} {o : LaneOutcome} {n : Nat} {c : Context}
    (h : Releasable s ds e o n c) (dr : List Damage) :
    exec (.release ds dr) s = .next
      (let r := judge dr o e.job.slot e.seq (s.dequeued ds)
       r.1.leaving e r.2 (if r.2 = .passed then n else 0)) := by
  obtain ⟨rest, hh⟩ := h.head
  rw [exec_release_lane hh (by simp [h.finished])]
  have hd : s.dequeued ds = damage ds { s with queue := rest } := by simp [State.dequeued, hh.head]
  have hi := h.intact
  rw [hd] at hi ⊢
  simp only [decideRelease, h.finished, releaseFinished]
  have hl : slotLive (damage ds { s with queue := rest }) e.job.slot = true := by simp [slotLive, hi.1, h.live]
  simp only [recordCheck_intact hi, hl, if_true]

end Sys2Proof.Machine
end

