-- ==== Sys2Proof/Tests/Slice0.lean ====
section
/-! SUPPORT. Tests: the well-formedness checks, one step of commands of each family on small states, and for each
statement with hypotheses a state and operands that meet them, clause by clause. -/

namespace Sys2Proof.Tests

-- One theorem at a time: many kernel evaluations side by side take more memory than a check may have.
set_option Elab.async false

open Sys2Proof.Machine

/-! ## Well-formed and ill-formed terms -/

/-- A second header word carries no first marker: with one it is a first word (R74). -/
theorem test_jobHeader_with_first_marker_illFormed :
    Instr.wellFormed (.jobHeader ⟨0, true, false, 0⟩ [] []) = false ∧
      Instr.wellFormed (.jobHeader ⟨0, false, true, 0⟩ [] []) = true := by decide

/-- BAD_COMMAND carries a code that names no command (R158). -/
theorem test_badCommand_with_a_command_code_illFormed :
    Instr.wellFormed (.badCommand 0x01) = false ∧ Instr.wellFormed (.badCommand 0x32) = false ∧
      Instr.wellFormed (.badCommand 0x00) = true ∧ Instr.wellFormed (.badCommand 0x0A) = true := by decide

/-- Interrupt flags, interrupt mask and Start have rows of their own (Table 10-2). -/
theorem test_registerWrite_of_own_row_illFormed :
    Instr.wellFormed (.registerWrite 0x05 0) = false ∧ Instr.wellFormed (.registerWrite 0x06 0) = false ∧
      Instr.wellFormed (.registerWrite 0x70 0) = false ∧ Instr.wellFormed (.registerWrite 0x10 0) = true := by decide

/-- No row of the table gives bits, so no word spells a command. -/
theorem test_no_word_spells_a_command : decodeTableWord 8 0x01 = none ∧ decodeTableWord 0 0 = none := ⟨rfl, rfl⟩

/-! ## Small states -/

def settings : Settings where
  direction := .both
  recipes := 0x0001
  flags := ⟨false, false, false⟩
  ceiling := 100
  lowMark := 0
  verifyLimit := 0
  drainBudget := 0
  drainTime := 0

/-- An ACTIVE context under tag 1, generation 1. -/
def ctx : Context where
  state := .active
  tag := 1
  generation := 1
  anchor := 0
  keyWidth := .w128
  key := some (.k128 5)
  salt := 9
  settings := settings
  nextSeq := 1
  lifeInstalled := 1000
  lifeLeft := 1000
  lowReported := false
  spent := false
  watermark := 0
  verifyFailures := 0
  drainProgress := 0
  timerLeft := 0
  timerRuns := false
  inFlight := 0
  framesProtected := 0
  framesAdmitted := 0
  framesRefused := 0
  checks := ⟨true, true, true⟩

def standby : Context := { ctx with state := .standby, generation := 2 }
def draining : Context := { ctx with state := .draining, generation := 2, timerLeft := 5, timerRuns := true }
def quarantined : Context := { ctx with state := .quarantined, key := none }
def damagedCtx : Context := { ctx with checks := ⟨true, false, true⟩ }

def recipe : RecipeDef := ⟨[⟨.header, .fixed 10⟩, ⟨.cipher, .rest⟩, ⟨.tag, .fixed 8⟩], .t8, 100⟩
def layout (n : Nat) : List (StepKind × Nat) := [(.header, 10), (.cipher, n), (.tag, 8)]

/-- Reset, with recipe 0 DEFINED and anchor 0 PROGRAMMED. -/
def base : State := (State.reset.setRecipe 0 ⟨some recipe, 0⟩).setAnchor 0 ⟨.programmed, some 7, none⟩

/-- The base state with records in slots 0 and up and tag 1 bound as given. -/
def bound (cs : List Context) (e : DirEntry) : State :=
  { (cs.zipIdx.foldl (fun s p => s.setSlot (Fin.ofNat 256 p.2) (some p.1)) base) with dir := [(1, e)] }

def one : State := bound [ctx] ⟨some 0, none, none⟩
def pair : State := bound [ctx, standby] ⟨some 0, some 1, none⟩
def drain : State := bound [ctx, draining] ⟨some 0, none, some 1⟩

/-- The DRAINING slot's timer at 0. -/
def drained : State := bound [ctx, { draining with timerLeft := 0 }] ⟨some 0, none, some 1⟩

def holdRecord (hold : Bool) : CondRecord where
  primary := .recordCheck
  classes := 1
  overlap := 0
  holding := hold
  phase := none
  lane := none
  seq := none
  group := none
  reason := none
  ancillary := false
  ending := .noEnding

def withRecord (hold : Bool) (s : State) : State :=
  { s.setCond 0 (some (holdRecord hold)) with attention := [0] }

def offline (s : State) : State :=
  { s with laneA := { s.laneA with state := .offline }, laneB := { s.laneB with state := .offline } }

/-- The first word of a Job Header for tag 1 and recipe 0: to protect, and to admit with marker 1. -/
def firstProtect : Word := 0x00010000
def firstAdmit : Word := 0x00010C00

/-- A state that holds a first word. -/
def holding (w0 : Word) (s : State) : State := { s with intake := .jobWord w0 }

/-- The second word of a Job Header for an input of `n` bytes. -/
def second (n : Nat) : FrameWord := ⟨BitVec.ofNat 32 (n * 2 ^ 20), false, false, 0⟩

def protectJob : Job where
  id := 0
  dir := .toProtect
  tag := 1
  marker := true
  slot := 0
  recipe := 0
  layout := layout 4
  tagLen := .t8
  inLen := 4
  outLen := 22
  reserved := 1

def admitJob : Job := { protectJob with dir := .toAdmit, inLen := 22, outLen := 4, reserved := 0 }

def fetched : FetchedKey := ⟨.k128 5, .w128, 9, 1, true⟩

/-- A frame of a job in WORK, in a phase after KEY_FETCH. -/
def workFrame (j : Job) (input : List Byte) (p : WorkPhase) : WorkFrame where
  job := j
  input := input
  phase := p
  fetched := some fetched
  header := bytesOf 10 0
  nonce := some 3
  authClear := []
  cipherBytes := []
  output := []

def protectFrame (p : WorkPhase) : WorkFrame := workFrame protectJob [1, 2, 3, 4] p

/-- The 10 header bytes of tag 1, marker 1, an 8-byte tag and sequence 6, and 12 bytes more. -/
def admitInput : List Byte := [0, 1, 0x80, 0, 0, 0, 0, 0, 0, 6] ++ List.replicate 12 0xAA

def laneEntry (j : Job) (x : Status) : LaneEntry := ⟨j, .laneA, j.reserved, false, x⟩

/-- One slot, one LANE entry of the job at the head of the queue, counted. -/
def queued (s : State) (j : Job) (x : Status) : State :=
  { (s.updateSlot j.slot fun c => { c with inFlight := 1 }).setRecipe 0 ⟨some recipe, 1⟩ with
    queue := [.lane (laneEntry j x)], nextJob := 1 }

def working (f : WorkFrame) : State :=
  let s := queued one f.job .pending
  s.setLane .laneA { s.laneA with work := some f }

def finishedAs (s : State) (j : Job) (o : LaneOutcome) (n : Nat) (seq : SeqNo) : State :=
  let s := { queued s j .pending with queue := [.lane { laneEntry j (.finished o n) with seq := seq }] }
  s.setLane .laneA { s.laneA with out := some ⟨j, List.replicate n 0x11⟩ }

/-- A state with the given bytes at the start of the Command Block. -/
def commanded (s : State) (bs : List Byte) : State := { s with commandBlock := blockOf bs }

/-- An INSTALL block: tag 2, ACTIVE, generation 1, anchor 0, 128 bits, BOTH, recipe 0, ceiling 100, life 1000. -/
def installBytes : List Byte :=
  [0, 2, 0, 1, 0, 0, 2, 0, 0, 1, 0, 0, 0, 0, 0, 9] ++ [0, 0, 0, 0, 0, 100] ++ [0, 0, 0, 3, 0xE8] ++ [0, 0, 0, 0, 0]
    ++ [0, 0, 0, 0]

/-- A Start of a command in execution: the copy it took. -/
def executing (s : State) (u : UnitState) : State := { s with unit := u, copy := some ⟨0x01, s.commandBlock, false⟩ }

def loadingCtx : Context := { ctx with state := .loading, key := none }

/-- An unwrap in execution for slot 1, to be bound ACTIVE under tag 2. -/
def unwrapping : State :=
  executing (one.setSlot 1 (some { loadingCtx with tag := 2 }))
    (.unwrapping { slot := 1, standby := false, anchorKey := 7, named := none })

/-- What a step of one command leaves. -/
def after (i : Instr) (s : State) : State :=
  match step { s with pending := [i] } with
  | .next t => t
  | .fault _ => s
  | .refused _ => s

/-- What a step with no command waiting leaves. -/
def tickOf (s : State) : State :=
  match step { s with pending := [] } with
  | .next t => t
  | .fault _ => s
  | .refused _ => s

/-! ## Structures of hypotheses from decided parts -/

theorem ready_of {s : State} (h : s.power = .running ∧ s.unit = .idle) : CommandReady s := ⟨h.1, h.2⟩

theorem unlocked_of {s : State} (h : s.power = .running ∧ s.unit = .idle ∧ s.lockLine = false) : Unlocked s :=
  ⟨⟨h.1, h.2.1⟩, h.2.2⟩

theorem taken_of {s : State} {w0 : Word} {w : FrameWord}
    (h : s.power = .running ∧ s.intake = .jobWord w0 ∧ accepting s = true ∧ w.first = false) : HeaderTaken s w0 w :=
  ⟨h.1, h.2.1, h.2.2.1, h.2.2.2⟩

theorem finds_protect {s : State} {w0 : Word} {w : FrameWord} {d : RecipeDef} {l : List (StepKind × Nat)} {k : SlotNo}
    (h : (s.power = .running ∧ s.intake = .jobWord w0 ∧ accepting s = true ∧ w.first = false) ∧ anyOnline s = true ∧
      (s.recipe (jobHeaderOf w0 w.data).recipe).defn = some d ∧
      resolve d (jobHeaderOf w0 w.data).dir (jobHeaderOf w0 w.data).inLen = some l ∧
      (jobHeaderOf w0 w.data).dir = .toProtect ∧ (s.entry (jobHeaderOf w0 w.data).tag).active = some k) :
    HeaderFinds s w0 w d l k :=
  ⟨taken_of h.1, h.2.1, h.2.2.1, h.2.2.2.1, by unfold Finds; rw [h.2.2.2.2.1]; exact h.2.2.2.2.2⟩

theorem finds_admit {s : State} {w0 : Word} {w : FrameWord} {d : RecipeDef} {l : List (StepKind × Nat)} {k : SlotNo}
    (p : Place)
    (h : (s.power = .running ∧ s.intake = .jobWord w0 ∧ accepting s = true ∧ w.first = false) ∧ anyOnline s = true ∧
      (s.recipe (jobHeaderOf w0 w.data).recipe).defn = some d ∧
      resolve d (jobHeaderOf w0 w.data).dir (jobHeaderOf w0 w.data).inLen = some l ∧
      (jobHeaderOf w0 w.data).dir = .toAdmit ∧ (k, p) ∈ (s.entry (jobHeaderOf w0 w.data).tag).bound ∧
      slotMarker s k = some (jobHeaderOf w0 w.data).marker ∧
      ∀ b ∈ (s.entry (jobHeaderOf w0 w.data).tag).bound,
        slotMarker s b.1 = some (jobHeaderOf w0 w.data).marker → b.1 = k) :
    HeaderFinds s w0 w d l k :=
  ⟨taken_of h.1, h.2.1, h.2.2.1, h.2.2.2.1, by
    unfold Finds; rw [h.2.2.2.2.1]; exact ⟨⟨p, h.2.2.2.2.2.1⟩, h.2.2.2.2.2.2⟩⟩

theorem admissible_of {s : State} {h : JobHeader} {k : SlotNo} {c : Context}
    (g : c.state ≠ .quarantined ∧ heldByRecord s k = false ∧ directionAllowed c.settings.direction h.dir = true ∧
      c.settings.recipes.getLsbD h.recipe.val = true) : Admissible s h k c := ⟨g.1, g.2.1, g.2.2.1, g.2.2.2⟩

theorem headFree_of {s : State} {e : Entry} {rest : List Entry}
    (h : s.power = .running ∧ s.sending = none ∧ s.queue = e :: rest) : HeadFree s e rest := ⟨h.1, h.2.1, h.2.2⟩

theorem releasable_of {s : State} {ds : List Damage} {e : LaneEntry} {o : LaneOutcome} {n : Nat} {c : Context}
    (h : (s.power = .running ∧ s.sending = none ∧ s.queue = [.lane e]) ∧ e.status = .finished o n ∧
      c.state.live = true ∧ (s.dequeued ds).slot e.job.slot = some c ∧ failingGroup c = none) :
    Releasable s ds e o n c := ⟨⟨[], headFree_of h.1⟩, h.2.1, h.2.2.1, h.2.2.2⟩

theorem lowest_of {s : State} {k : SlotNo} (h : s.slot k = none ∧ ∀ j < k, s.slot j ≠ none) : LowestFree s k :=
  ⟨h.1, h.2⟩

theorem admits_of {s : State} {t : Tag} {b m : Bool}
    (h : (s.entry t).bound.length < 2 ∧ (if b then (s.entry t).standby else (s.entry t).active) = none ∧
      ∀ x ∈ (s.entry t).bound, slotMarker s x.1 ≠ some m) : Admits s t b m := ⟨h.1, h.2.1, h.2.2⟩

/-! ## Witnesses: time, Frame In and the dispatch -/

/-- A serial line with an event, and one without, no timer at 0. -/
theorem witness_IdleStepCountsRunningTimersDown :
    (∃ e rest, ({ one with serial := [.csFall] } : State).serial = e :: rest) ∧
    drain.pending = [] ∧ drain.serial = [] ∧ drain.power = .running ∧
      ∀ (k : SlotNo), (drain.slot k).all (fun c => !c.timing || c.timerLeft != 0) = true := by
  refine ⟨⟨_, _, rfl⟩, ?_⟩
  decide +kernel

theorem witness_PowerOnAndStartupGiveResetState :
    ({ State.reset with power := .off } : State).power = .off ∧ State.reset.rstLine = false := ⟨rfl, rfl⟩

theorem witness_AwaitJobTakesFirstWord :
    one.power = .running ∧ one.intake = .awaitJob ∧ accepting one = true := by decide +kernel

/-- The acceptance condition met, and not met: a queue of 8 entries, and lanes ONLINE with a frame in STAGE each. -/
theorem witness_JobWordReplacedByFirstMarker :
    (holding 5 one).power = .running ∧ (holding 5 one).intake = .jobWord 5 ∧ accepting (holding 5 one) = true ∧
      accepting { one with queue := List.replicate 8 (.refused ⟨.noContext, .toAdmit, 9, true, none⟩) } = false ∧
      accepting { one with queue := List.replicate 7 (.refused ⟨.noContext, .toAdmit, 9, true, none⟩) } = true ∧
      (let busyLane : Lane := ⟨.online, some ⟨protectJob, [], false⟩, none, none⟩
       accepting { one with laneA := busyLane, laneB := busyLane } = false) ∧ accepting (offline one) = true := by
  decide +kernel

/-- The six ways of checks 1 to 4, the length one byte past the recipe's maximum. -/
theorem witness_RefusedWithoutSlot :
    (HeaderTaken (holding firstProtect (offline one)) firstProtect (second 4) ∧ anyOnline (offline one) = false) ∧
    (HeaderTaken (holding 0x0001F000 one) 0x0001F000 (second 4) ∧
      (one.recipe (jobHeaderOf 0x0001F000 (second 4).data).recipe).defn = none) ∧
    (HeaderTaken (holding firstProtect one) firstProtect (second 101) ∧
      resolve recipe .toProtect (jobHeaderOf firstProtect (second 101).data).inLen = none ∧
      resolve recipe .toProtect 100 ≠ none) ∧
    (HeaderTaken (holding 0xFFFF0000 one) 0xFFFF0000 (second 4) ∧
      one.entry (jobHeaderOf 0xFFFF0000 (second 4).data).tag = DirEntry.empty) ∧
    (HeaderTaken (holding firstProtect (bound [draining] ⟨none, none, some 0⟩)) firstProtect (second 4) ∧
      ((bound [draining] ⟨none, none, some 0⟩).entry 1).active = none) ∧
    (HeaderTaken (holding 0x00010800 one) 0x00010800 (second 22) ∧
      ∀ b ∈ (one.entry 1).bound, slotMarker one b.1 ≠ some (jobHeaderOf 0x00010800 (second 22).data).marker) := by
  refine ⟨⟨taken_of ?_, ?_⟩, ⟨taken_of ?_, ?_⟩, ⟨taken_of ?_, ?_⟩, ⟨taken_of ?_, ?_⟩, ⟨taken_of ?_, ?_⟩, taken_of ?_, ?_⟩
  all_goals decide +kernel

/-- QUARANTINED, held by its record, direction, recipe. -/
theorem witness_RefusedUnderSlot :
    (HeaderFinds (holding firstProtect (bound [quarantined] ⟨some 0, none, none⟩)) firstProtect (second 4) recipe
      (layout 4) 0 ∧ Intact (bound [quarantined] ⟨some 0, none, none⟩) 0 quarantined) ∧
    (HeaderFinds (holding firstProtect (withRecord true one)) firstProtect (second 4) recipe (layout 4) 0 ∧
      Intact (withRecord true one) 0 ctx ∧ heldByRecord (withRecord true one) 0 = true) ∧
    (let c := { ctx with settings := { settings with direction := .admitOnly } }
     HeaderFinds (holding firstProtect (bound [c] ⟨some 0, none, none⟩)) firstProtect (second 4) recipe (layout 4) 0 ∧
      Intact (bound [c] ⟨some 0, none, none⟩) 0 c ∧
      directionAllowed c.settings.direction (jobHeaderOf firstProtect (second 4).data).dir = false) ∧
    (let c := { ctx with settings := { settings with recipes := 0xFFFE } }
     HeaderFinds (holding firstProtect (bound [c] ⟨some 0, none, none⟩)) firstProtect (second 4) recipe (layout 4) 0 ∧
      Intact (bound [c] ⟨some 0, none, none⟩) 0 c ∧ c.settings.recipes.getLsbD 0 = false) := by
  refine ⟨⟨finds_protect ?_, ?_, ?_⟩, ⟨finds_protect ?_, ⟨?_, ?_⟩, ?_⟩, ⟨finds_protect ?_, ⟨?_, ?_⟩, ?_⟩,
    finds_protect ?_, ⟨?_, ?_⟩, ?_⟩
  all_goals decide +kernel

theorem witness_LookupCheckFailureQuarantines :
    HeaderFinds (holding firstProtect one) firstProtect (second 4) recipe (layout 4) 0 ∧
      (damage [⟨0, .settings⟩] (holding firstProtect one)).slot 0 = some { ctx with checks := ⟨true, true, false⟩ } ∧
      failingGroup { ctx with checks := ⟨true, true, false⟩ } = some .settings := by
  refine ⟨finds_protect ?_, ?_, ?_⟩
  all_goals decide +kernel

def rolling : Context := { ctx with spent := true, settings := { settings with flags := ⟨false, true, false⟩ } }

/-- The spent ACTIVE of a life roll-over with its STANDBY. -/
def rollingPair : State := bound [rolling, standby] ⟨some 0, some 1, none⟩

/-- Spent by its flag, by its ceiling, by its life: one above, one below. With a life roll-over: the STANDBY damaged at
the roll-over's read, and both. -/
theorem witness_SpentProtectRefusedExhausted :
    (∀ c ∈ [{ ctx with spent := true }, { ctx with nextSeq := 101 }, { ctx with lifeLeft := 13 }],
      HeaderFinds (holding firstProtect (bound [c] ⟨some 0, none, none⟩)) firstProtect (second 4) recipe (layout 4) 0 ∧
        Intact (bound [c] ⟨some 0, none, none⟩) 0 c ∧
        Admissible (bound [c] ⟨some 0, none, none⟩) (jobHeaderOf firstProtect (second 4).data) 0 c ∧
        (c.spent = true ∨ c.settings.ceiling < c.nextSeq ∨ c.lifeLeft.toNat < metered (layout 4)) ∧
        c.settings.flags.lifeRoll = false) ∧
    HeaderFinds (holding firstProtect rollingPair) firstProtect (second 4) recipe (layout 4) 0 ∧
    Intact rollingPair 0 rolling ∧ Admissible rollingPair (jobHeaderOf firstProtect (second 4).data) 0 rolling ∧
    rollingPair.entry rolling.tag = ⟨some 0, some 1, none⟩ ∧
    (let q := { standby with checks := ⟨false, true, true⟩ }
     let x := { rolling with checks := ⟨true, true, false⟩ }
     (damage [⟨1, .key⟩] rollingPair).slot 1 = some q ∧ failingGroup q = some .key ∧
       (damage [⟨1, .key⟩] rollingPair).slot 0 = some rolling ∧
       (damage [⟨1, .key⟩, ⟨0, .settings⟩] rollingPair).slot 1 = some q ∧
       (damage [⟨1, .key⟩, ⟨0, .settings⟩] rollingPair).slot 0 = some x ∧ failingGroup x = some .settings) := by
  refine ⟨?_, finds_protect ?_, ⟨?_, ?_⟩, admissible_of ?_, ?_⟩
  · intro c h
    simp only [List.mem_cons, List.not_mem_nil, or_false] at h
    rcases h with rfl | rfl | rfl
    all_goals refine ⟨finds_protect ?_, ⟨?_, ?_⟩, admissible_of ?_, ?_, ?_⟩
    all_goals decide +kernel
  all_goals decide +kernel

/-- The last sequence below the ceiling and a life of exactly the metered bytes. -/
theorem witness_ProtectDispatchedToLane :
    (let c := { ctx with nextSeq := 100, lifeLeft := 14 }
     let s := bound [c] ⟨some 0, none, none⟩
     HeaderFinds (holding firstProtect s) firstProtect (second 4) recipe (layout 4) 0 ∧ Intact s 0 c ∧
       Admissible s (jobHeaderOf firstProtect (second 4).data) 0 c ∧ c.nextSeq ≤ c.settings.ceiling ∧
       metered (layout 4) ≤ c.lifeLeft.toNat) := by
  refine ⟨finds_protect ?_, ⟨?_, ?_⟩, admissible_of ?_, ?_, ?_⟩
  all_goals decide +kernel

theorem witness_AdmitDispatchedToLane :
    HeaderFinds (holding firstAdmit one) firstAdmit (second 22) recipe (layout 4) 0 ∧ Intact one 0 ctx ∧
      Admissible one (jobHeaderOf firstAdmit (second 22).data) 0 ctx := by
  refine ⟨finds_admit .active ?_, ⟨?_, ?_⟩, admissible_of ?_⟩
  all_goals decide +kernel

/-- The former ACTIVE intact and damaged at the roll-over's read; the new ACTIVE passing checks 5 to 8 with a life of
exactly the metered bytes, and failing at each of them. -/
theorem witness_LifeRollOverTakesTheFrame :
    (∀ p ∈ [({ standby with lifeLeft := 14 }, (none : Option Verdict)), ({ standby with lifeLeft := 13 }, some .exhausted),
        ({ standby with settings := { settings with direction := .admitOnly } }, some .direction),
        ({ standby with settings := { settings with recipes := 0xFFFE } }, some .recipeDenied)],
      (let s := bound [rolling, p.1] ⟨some 0, some 1, none⟩
       let h := jobHeaderOf firstProtect (second 4).data
       HeaderFinds (holding firstProtect s) firstProtect (second 4) recipe (layout 4) 0 ∧ DirectoryFormed s ∧
         s.entry rolling.tag = ⟨some 0, some 1, none⟩ ∧ Intact s 0 rolling ∧ Intact s 1 p.1 ∧
         Admissible s h 0 rolling ∧ heldByRecord s 1 = false ∧
         (p.2 = none ∨ p.2 = some .exhausted ↔ directionAllowed p.1.settings.direction h.dir = true ∧
           p.1.settings.recipes.getLsbD h.recipe.val = true) ∧
         (p.2 = some .direction ↔ directionAllowed p.1.settings.direction h.dir = false) ∧
         (p.2 = some .exhausted ↔ p.1.lifeLeft.toNat < metered (layout 4)))) ∧
    heldByRecord (({ rollingPair.setCond 1 (some (holdRecord true)) with attention := [1] } : State)) 1 = true ∧
    (let x := { rolling with checks := ⟨true, true, false⟩ }
     (damage [⟨0, .settings⟩] rollingPair).slot 0 = some x ∧ failingGroup x = some .settings ∧
       (damage [⟨0, .settings⟩] rollingPair).slot 1 = some standby) := by
  refine ⟨?_, ?_⟩
  · intro p h
    simp only [List.mem_cons, List.not_mem_nil, or_false] at h
    rcases h with rfl | rfl | rfl | rfl
    all_goals refine ⟨finds_protect ?_, ⟨?_, ?_⟩, ?_, ⟨?_, ?_⟩, ⟨?_, ?_⟩, admissible_of ?_, ?_⟩
    all_goals decide +kernel
  · decide +kernel

theorem witness_LaneArbiterAlternates :
    (one.laneA.qualifies = true ∧ one.laneB.qualifies = true) ∧
      (let s := { one with laneB := { one.laneB with state := .offline } }
       s.laneA.qualifies = true ∧ s.laneB.qualifies = false) ∧
      (let s := { one with laneA := { one.laneA with stage := some ⟨protectJob, [], false⟩ } }
       s.laneA.qualifies = false ∧ s.laneB.qualifies = true) := by decide +kernel

/-- A frame of 6 bytes being streamed, 4 received. -/
def streaming : State :=
  let j := { protectJob with inLen := 6, layout := layout 6, outLen := 24 }
  let s := queued one j .pending
  { s with laneA := { s.laneA with stage := some ⟨j, [1, 2, 3, 4], false⟩ }, intake := .streaming j .laneA 4 }

def streamedJob : Job := { protectJob with inLen := 6, layout := layout 6, outLen := 24 }

/-- The word before the last, and the last word at exactly the input length. -/
theorem witness_StreamedWordWritten :
    (streaming.power = .running ∧ streaming.intake = .streaming streamedJob .laneA 4 ∧
      (streaming.lane .laneA).stage = some ⟨streamedJob, [1, 2, 3, 4], false⟩) ∧
    0 + 4 ≤ streamedJob.inLen ∧ 4 + frameByteCount ⟨0, false, true, 2⟩ = streamedJob.inLen := by decide +kernel

/-- A first marker, one byte too long, one byte too short; a word in DISCARDING. -/
theorem witness_BrokenFramesDropped :
    (⟨0, true, true, 2⟩ : FrameWord).first = true ∧ streamedJob.inLen < 4 + frameByteCount ⟨0, false, true, 3⟩ ∧
      4 + frameByteCount ⟨0, false, true, 1⟩ < streamedJob.inLen ∧
      ({ one with intake := .discarding } : State).power = .running := by decide +kernel

/-! ## Witnesses: lanes -/

theorem witness_FramesMoveForward :
    ((working (protectFrame .keyFetch)).power = .running ∧
      ((working (protectFrame .keyFetch)).lane .laneA).work = some (protectFrame .keyFetch) ∧
      (working (protectFrame .keyFetch)).slot 0 = some { ctx with inFlight := 1 } ∧ ctx.key = some (.k128 5)) ∧
    (let f : StageFrame := ⟨protectJob, [1, 2, 3, 4], true⟩
     let s := (queued one protectJob .pending).setLane .laneA ⟨.online, some f, none, none⟩
     s.power = .running ∧ (s.lane .laneA).stage = some f ∧ (s.lane .laneA).work = none) ∧
    (let f := protectFrame (.done .finished)
     ((working f).lane .laneA).work = some f ∧ ((working f).lane .laneA).out = none) := by decide +kernel

/-- A protect; an admit whose header passes, and one whose marker bit is the other's. -/
theorem witness_HeaderBuiltOrParsed :
    ((working (protectFrame .header)).lane .laneA).work = some (protectFrame .header) ∧
    (let f := workFrame admitJob admitInput .header
     let x := (f.input.drop (headerOffset f.job.layout)).take 10
     ((working f).lane .laneA).work = some f ∧ x.length = 10 ∧ x.drop 4 = bytesOf 6 (6 : SeqNo).toNat ∧
       x.take 4 = bytesOf 2 1 ++ [BitVec.ofBool true ++ tagLenCode .t8 ++ (0 : BitVec 5), 0]) ∧
    (let f := workFrame admitJob ([0, 1, 0] ++ admitInput.drop 3) .header
     let x := (f.input.drop (headerOffset f.job.layout)).take 10
     ((working f).lane .laneA).work = some f ∧ x.length = 10 ∧ x.drop 4 = bytesOf 6 (6 : SeqNo).toNat ∧
       x.take 4 ≠ bytesOf 2 1 ++ [BitVec.ofBool true ++ tagLenCode .t8 ++ (0 : BitVec 5), 0]) := by decide +kernel

theorem witness_BodyTakesStepsByKind :
    (((working (protectFrame .body)).lane .laneA).work = some (protectFrame .body) ∧
      (protectFrame .body).fetched = some fetched ∧ (protectFrame .body).nonce = some 3) ∧
    (⟨[1, 2, 3], 0, [], [], []⟩ : BodyRun).input = [1] ++ [2, 3] ∧ (bytesOf 10 0).length = 10 := by decide +kernel

theorem witness_TagAppendedOrCompared :
    (((working (protectFrame .tag)).lane .laneA).work = some (protectFrame .tag) ∧
      (protectFrame .tag).fetched = some fetched ∧ (protectFrame .tag).nonce = some 3) ∧
    (((working (workFrame admitJob admitInput .tag)).lane .laneA).work = some (workFrame admitJob admitInput .tag) ∧
      admitJob.dir = .toAdmit) := by decide +kernel

theorem witness_OutputHasResolvedLength :
    ((working (protectFrame .body)).lane .laneA).work = some (protectFrame .body) ∧
      recipe.sound = true ∧ resolve recipe .toProtect 4 = some protectJob.layout ∧
      (protectFrame .body).header.length = 10 := by decide +kernel

/-- The protect of 4 bytes, and the admit of exactly the frame it leaves. -/
theorem witness_AdmitUndoesProtect :
    (let s := working (protectFrame .header)
     let out := after (.tag .laneA) (after (.body .laneA) (after (.header .laneA) s))
     let g := workFrame admitJob ((((out.lane .laneA).work).map WorkFrame.output).getD []) .header
     let t := working g
     (s.lane .laneA).work = some (protectFrame .header) ∧ protectJob.reserved ≠ 0 ∧ recipe.sound = true ∧
       (∀ st ∈ recipe.steps, st.kind ≠ .strip) ∧ resolve recipe .toProtect 4 = some protectJob.layout ∧
       (t.lane .laneA).work.isSome = true ∧ g.job.marker = fetched.marker ∧ g.job.tag = protectJob.tag ∧
       resolve recipe .toAdmit g.input.length = some g.job.layout) := by decide +kernel

theorem witness_LaneFaultTakesLaneOffline :
    ((working (protectFrame .body)).lane .laneA).work = some (protectFrame .body) ∧
      faultPhase (protectFrame .body).phase = some .body := by decide +kernel

/-- An entry that is ended, one that was ended before, and a stream that is broken off. -/
theorem witness_EndedJobsLeaveTheirLanes :
    streaming.queue[0]? = some (.lane (laneEntry streamedJob .pending)) ∧ streamedJob.id ∈ [0] ∧
      streaming.intake = .streaming streamedJob .laneA 4 ∧
      (queued one protectJob (.ended .framing)).queue[0]? = some (.lane (laneEntry protectJob (.ended .framing))) := by
  decide +kernel

/-! ## Witnesses: release and Frame Out -/

def refusedEntry : RefusedEntry := ⟨.noContext, .toAdmit, 9, true, none⟩

theorem witness_EntriesReleasedUnjudged :
    HeadFree { one with queue := [.refused refusedEntry] } (.refused refusedEntry) [] ∧
      HeadFree (queued one protectJob (.ended .aborted)) (.lane (laneEntry protectJob (.ended .aborted))) [] ∧
      (queued one protectJob .pending).queue = .lane (laneEntry protectJob .pending) :: [] ∧ one.queue = [] := by
  refine ⟨headFree_of ?_, headFree_of ?_, ?_, ?_⟩
  all_goals decide +kernel

def inFlightCtx (c : Context) : Context := { c with inFlight := 1 }

def finishedEntry (j : Job) (o : LaneOutcome) (n : Nat) (seq : SeqNo) : LaneEntry :=
  { laneEntry j (.finished o n) with seq := seq }

theorem witness_ProtectReleasedPassed :
    Releasable (finishedAs one protectJob .finished 22 1) [] (finishedEntry protectJob .finished 22 1) .finished 22
      (inFlightCtx ctx) := by
  refine releasable_of ?_
  decide +kernel

/-- A MALFORMED admit, a VERIFY_FAIL below and at its limit and at 255, a sequence at the watermark and one above. -/
theorem witness_AdmitJudgedAtRelease :
    (∀ p ∈ [(LaneOutcome.malformed, 0), (.verifyFail, 4)],
      Releasable (finishedAs one admitJob p.1 p.2 1) [] (finishedEntry admitJob p.1 p.2 1) p.1 p.2
        (inFlightCtx ctx)) ∧
    (∀ c ∈ [{ ctx with verifyFailures := 2, settings := { settings with verifyLimit := 3 } },
        { ctx with verifyFailures := 255, settings := { settings with verifyLimit := 255 } }],
      Releasable (finishedAs (bound [c] ⟨some 0, none, none⟩) admitJob .verifyFail 4 1) []
        (finishedEntry admitJob .verifyFail 4 1) .verifyFail 4 (inFlightCtx c)) ∧
    (∀ seq ∈ [(7 : SeqNo), 8],
      Releasable (finishedAs (bound [{ ctx with watermark := 7 }] ⟨some 0, none, none⟩) admitJob .verified 4 seq) []
        (finishedEntry admitJob .verified 4 seq) .verified 4 (inFlightCtx { ctx with watermark := 7 })) ∧
    drainingOf ((finishedAs one admitJob .verified 4 1).dequeued []) 1 = none := by
  refine ⟨?_, ?_, ?_, ?_⟩
  · intro p h
    simp only [List.mem_cons, List.not_mem_nil, or_false] at h
    rcases h with rfl | rfl
    all_goals refine releasable_of ?_
    all_goals decide +kernel
  · intro c h
    simp only [List.mem_cons, List.not_mem_nil, or_false] at h
    rcases h with rfl | rfl
    all_goals refine releasable_of ?_
    all_goals decide +kernel
  · intro q h
    simp only [List.mem_cons, List.not_mem_nil, or_false] at h
    rcases h with rfl | rfl
    all_goals refine releasable_of ?_
    all_goals decide +kernel
  · decide +kernel

/-- A budget of 3: with progress 1 it is not reached by the next frame, with 2 it is. -/
theorem witness_PassedAdmitCountsDrainProgress :
    ∀ n ∈ [(1 : BitVec 16), 2],
      (let x := { draining with drainProgress := n, settings := { settings with drainBudget := 3 } }
       let s := finishedAs (bound [ctx, x] ⟨some 0, none, some 1⟩) admitJob .verified 4 1
       Releasable s [] (finishedEntry admitJob .verified 4 1) .verified 4 (inFlightCtx ctx) ∧
         ctx.watermark < (1 : SeqNo) ∧ (s.entry ctx.tag).draining = some 1 ∧ (s.dequeued []).slot 1 = some x) := by
  intro n h
  simp only [List.mem_cons, List.not_mem_nil, or_false] at h
  rcases h with rfl | rfl
  all_goals refine ⟨releasable_of ?_, ?_, ?_, ?_⟩
  all_goals decide +kernel

def peer : Context := { standby with settings := { settings with flags := ⟨true, false, false⟩ } }

theorem witness_PassedAdmitMakesPeerRollOver :
    (let j := { admitJob with slot := 1, marker := false }
     Releasable (finishedAs (bound [ctx, peer] ⟨some 0, some 1, none⟩) j .verified 4 1) []
       (finishedEntry j .verified 4 1) .verified 4 (inFlightCtx peer) ∧ peer.state = .standby ∧
       peer.settings.flags.peerRoll = true) := by
  refine ⟨releasable_of ?_, ?_, ?_⟩
  all_goals decide +kernel

theorem witness_ReleaseCheckFailureAborts :
    (let s := finishedAs one admitJob .verified 4 1
     HeadFree s (.lane (finishedEntry admitJob .verified 4 1)) [] ∧
       (s.dequeued [⟨0, .key⟩]).slot 0 = some { inFlightCtx ctx with checks := ⟨false, true, true⟩ } ∧
       failingGroup { inFlightCtx ctx with checks := ⟨false, true, true⟩ } = some .key) := by
  refine ⟨headFree_of ?_, ?_, ?_⟩
  all_goals decide +kernel

/-- A result of 4 output bytes, 5 words: each word of the header, and the last. -/
theorem witness_ResultWordsLeaveInOrder :
    ∀ i ∈ List.range 5,
      (let x : Sending := ⟨.passed, true, some 0, 1, 4, 6, some .laneA, i⟩
       let s := { one with sending := some x, laneA := { one.laneA with out := some ⟨admitJob, [1, 2, 3, 4]⟩ } }
       s.power = .running ∧ s.sending = some x ∧
         (i + 1 < 4 + (x.outLen + 3) / 4 ∨ i = 4 ∧ 4 + (x.outLen + 3) / 4 ≤ i + 1)) := by decide +kernel

/-- A timer with 5 ms left; a timer at 0, of the lowest slot that has one. -/
theorem witness_DrainTimerExpiryEndsDrain :
    (drain.power = .running ∧ (drain.slot 1).all (fun c => !c.timing || c.timerLeft != 0) = true) ∧
    (drained.power = .running ∧ drained.slot 1 = some { draining with timerLeft := 0 } ∧
      ({ draining with timerLeft := 0 } : Context).timing = true ∧ drained.pending = [] ∧ drained.serial = [] ∧
      ∀ j : SlotNo, j < 1 → (drained.slot j).all (fun x => !x.timing || x.timerLeft != 0) = true) := by decide +kernel

/-! ## Witnesses: commands -/

theorem witness_StartRefusedWhileExecuting :
    unwrapping.power = .running ∧ unwrapping.unit ≠ .idle ∧ Instr.startCode .install = some 0x01 := by decide +kernel

def lockRange : LockRange := ⟨1, 2, false⟩

/-- LOCK# asserted; a target tag at the low and at the high end of a lock range. -/
theorem witness_LockChecksRefuse :
    (CommandReady { one with lockLine := true } ∧ guardedCodes.contains 0x01 = true) ∧
    (let s := (commanded one installBytes).setLockRange 3 (some lockRange)
     Unlocked s ∧ s.lockRange 3 = some lockRange ∧ s.slot s.namedSlot = some ctx ∧ lockRange.low = ctx.tag ∧
       overridesAt s.commandBlock ≠ none ∧ modifyChangesAt s.commandBlock ≠ none ∧
       (installAt s.commandBlock).map (fun x => x.1.tag) = some lockRange.high) := by
  refine ⟨⟨ready_of ?_, ?_⟩, unlocked_of ?_, ?_⟩
  all_goals decide +kernel

/-- A code that names a command and one that names none; a WRITE transaction before its eighth bit and at it. -/
theorem witness_StartByteRunsItsCommand :
    (commandCodes.contains 0x01 = true ∧ commandCodes.contains 0x0A = false ∧ CommandReady one) ∧ one.port = .deselected ∧
      ([true, false, true, false, true, false] : List Bool).length < 7 ∧
      ([true, false, true, false, true, false, true] : List Bool).length = 7 := by
  refine ⟨⟨?_, ?_, ready_of ?_⟩, ?_⟩
  all_goals decide +kernel

def installed : NewContext := ⟨2, 1, 0, .w128, 9, settings, 1000⟩

/-- A life of 0; an anchor not PROGRAMMED; the three failures of the admission test; no FREE slot; all checks passed. -/
theorem witness_InstallTakesLowestFreeSlot :
    installAt (commanded one []).commandBlock = none ∧
    (let s := commanded one installBytes
     Unlocked s ∧ installAt s.commandBlock = some (installed, false) ∧ tagLocked s 2 = false ∧ Usable s 0 7 ∧
       Admits s 2 false true ∧ LowestFree s 1) ∧
    (base.anchor 1).state ≠ .programmed ∧
    AdmissionFails pair 1 false true .tagFull ∧ AdmissionFails one 1 false false .roleTaken ∧
    AdmissionFails one 1 true true .generationClash ∧
    ∀ k : SlotNo, ({ one with slots := Vector.replicate 256 (some ctx) } : State).slot k ≠ none := by
  refine ⟨?_, ⟨unlocked_of ?_, ?_, ?_, ⟨?_, ?_⟩, admits_of ?_, lowest_of ?_⟩, ?_, .inl ?_, .inr (.inl ?_),
    .inr (.inr ?_), ?_⟩
  all_goals decide +kernel

/-- A SUCCEED block with no override: slot 0, mask 0. Its refusals: a direction of 3; a slot that is not ACTIVE; a failing
record; a mark of one above the life, and of the life itself; an anchor not PROGRAMMED; a full pair; no FREE slot. -/
theorem witness_SucceedTakesNextGeneration :
    (Unlocked one ∧ overridesAt one.commandBlock = some ⟨none, none, none, ⟨none, none, none, none, none, none, none, none⟩⟩ ∧
      slotLocked one one.namedSlot = false ∧ Intact one one.namedSlot ctx ∧ Usable one 0 7 ∧
      (one.entry 1).bound.length < 2 ∧ LowestFree one 1) ∧
    (bound [standby] ⟨none, some 0, none⟩).slotIs 0 .active = false ∧
    overridesAt (commanded one ([0, 0, 4] ++ List.replicate 3 0 ++ [3])).commandBlock = none ∧
    (damage [⟨0, .counters⟩] one).slot 0 = some damagedCtx ∧ failingGroup damagedCtx = some .counters ∧
    (∀ p ∈ [(1000, false), (1001, true)],
      (overridesAt (commanded one ([0, 0, 0x80] ++ List.replicate 24 0 ++ bytesOf 5 p.1)).commandBlock).map (fun o =>
        decide ((successor one.commandBlock o ctx).life < (successor one.commandBlock o ctx).settings.lowMark)) = some p.2) ∧
    (base.anchor 1).state ≠ .programmed ∧ ¬(pair.entry 1).bound.length < 2 ∧
    ∀ k : SlotNo, ({ one with slots := Vector.replicate 256 (some ctx) } : State).slot k ≠ none := by
  refine ⟨⟨unlocked_of ?_, ?_, ?_, ⟨?_, ?_⟩, ⟨?_, ?_⟩, ?_, lowest_of ?_⟩, ?_⟩
  all_goals decide +kernel

/-- One of the two outcomes of the unwrap is met, whichever the unwrap's arithmetic gives (assumption 5); with it the
pair that admits the marker, and one that does not. -/
theorem witness_UnwrapCompletesOneOfThreeWays :
    (unwrapping.power = .running ∧ unwrapping.unit = .unwrapping ⟨1, false, 7, none⟩ ∧
      unwrapping.slot 1 = some { loadingCtx with tag := 2 } ∧ unwrapping.copy.isSome = true) ∧
    (unwrapAt unwrapping.commandBlock .w128 7 = none ∨ ∃ key, unwrapAt unwrapping.commandBlock .w128 7 = some key) ∧
    Admits unwrapping 2 false true ∧ AdmissionFails unwrapping 1 false true .roleTaken := by
  refine ⟨?_, ?_, admits_of ?_, .inr (.inl ?_)⟩
  · decide +kernel
  · cases unwrapAt unwrapping.commandBlock .w128 7
    · exact .inl rfl
    · exact .inr ⟨_, rfl⟩
  all_goals decide +kernel

/-- A STANDBY alone, a STANDBY with an ACTIVE, with a DRAINING and with a QUARANTINED partner, and a slot that is not
STANDBY; the STANDBY's record failing, the partner's, and both. -/
theorem witness_ActivateRollsOver :
    (∀ p ∈ [([standby], (⟨none, some 0, none⟩ : DirEntry)), ([standby, ctx], ⟨some 1, some 0, none⟩),
        ([standby, { draining with generation := 1 }], ⟨none, some 0, some 1⟩),
        ([standby, quarantined], ⟨some 1, some 0, none⟩)],
      Unlocked (bound p.1 p.2) ∧ slotLocked (bound p.1 p.2) 0 = false ∧ Intact (bound p.1 p.2) 0 standby ∧
        DirectoryFormed (bound p.1 p.2) ∧ (bound p.1 p.2).entry 1 = p.2) ∧
    (let s := bound [standby, ctx] ⟨some 1, some 0, none⟩
     let c := { standby with checks := ⟨false, true, true⟩ }
     (damage [⟨0, .key⟩] s).slot 0 = some c ∧ failingGroup c = some .key ∧ (damage [⟨0, .key⟩] s).slot 1 = some ctx ∧
       failingGroup ctx = none ∧ (damage [⟨1, .counters⟩] s).slot 0 = some standby ∧ failingGroup standby = none ∧
       (damage [⟨1, .counters⟩] s).slot 1 = some damagedCtx ∧
       (damage [⟨0, .key⟩, ⟨1, .counters⟩] s).slot 0 = some c ∧
       (damage [⟨0, .key⟩, ⟨1, .counters⟩] s).slot 1 = some damagedCtx) ∧
    one.slotIs 0 .standby = false := by
  refine ⟨?_, by decide +kernel⟩
  intro p h
  simp only [List.mem_cons, List.not_mem_nil, or_false] at h
  rcases h with rfl | rfl | rfl | rfl
  all_goals refine ⟨unlocked_of ?_, ?_, ⟨?_, ?_⟩, ⟨?_, ?_⟩, ?_⟩
  all_goals decide +kernel

/-- A slot in each of the states RETIRE tells apart, FREE, failing its check, and with a frame in flight. -/
theorem witness_RetireUnbinds :
    (∀ c ∈ [ctx, standby, draining, quarantined, damagedCtx, loadingCtx, { ctx with state := .retiring, inFlight := 1 },
        { ctx with inFlight := 1 }],
      Unlocked (bound [c] DirEntry.empty) ∧ slotLocked (bound [c] DirEntry.empty) 0 = false ∧
        (bound [c] DirEntry.empty).slot 0 = some c) ∧
    (failingGroup ctx = none ∧ failingGroup damagedCtx = some .counters ∧ base.slot 0 = none) := by
  refine ⟨?_, by decide +kernel⟩
  intro c h
  simp only [List.mem_cons, List.not_mem_nil, or_false] at h
  rcases h with rfl | rfl | rfl | rfl | rfl | rfl | rfl | rfl
  all_goals refine ⟨unlocked_of ?_, ?_, ?_⟩
  all_goals decide +kernel

/-- MODIFY of the low mark of slot 0: at the installed life it fits, one above it does not. MODIFY of a DRAINING slot's
budget to its progress ends its drain. A direction of 3, a QUARANTINED slot, a failing record. -/
theorem witness_ModifyChangesSelectedSettings :
    (∀ p ∈ [((1000 : ByteLife), true), (1001, false)],
      (let s := commanded one ([0, 0x10] ++ List.replicate 25 0 ++ bytesOf 5 p.1.toNat)
       Unlocked s ∧ slotLocked s s.namedSlot = false ∧ Intact s s.namedSlot ctx ∧
         ((modifyChangesAt s.commandBlock).bind SettingChanges.lowMark) = some p.1 ∧
         decide (p.1 ≤ ctx.lifeInstalled) = p.2)) ∧
    (let c := { draining with drainProgress := 2 }
     let s := commanded (bound [c] ⟨none, none, some 0⟩) ([0, 0x20] ++ List.replicate 30 0 ++ [0, 2])
     Unlocked s ∧ Intact s s.namedSlot c ∧
       ((modifyChangesAt s.commandBlock).bind SettingChanges.drainBudget) = some 2 ∧ 2 ≤ c.drainProgress) ∧
    modifyChangesAt (commanded one ([0, 1] ++ List.replicate 4 0 ++ [3])).commandBlock = none ∧
    (bound [quarantined] ⟨some 0, none, none⟩).slotIs 0 .quarantined = true ∧
    (damage [⟨0, .counters⟩] one).slot 0 = some damagedCtx ∧ failingGroup damagedCtx = some .counters := by
  refine ⟨?_, ⟨unlocked_of ?_, ⟨?_, ?_⟩, ?_⟩, ?_⟩
  · intro p h
    simp only [List.mem_cons, List.not_mem_nil, or_false] at h
    rcases h with rfl | rfl
    all_goals refine ⟨unlocked_of ?_, ?_, ⟨?_, ?_⟩, ?_⟩
    all_goals decide +kernel
  all_goals decide +kernel

theorem witness_PurgeFreesQuarantinedSlot :
    (let s := bound [quarantined] ⟨some 0, none, none⟩
     Unlocked s ∧ slotLocked s s.namedSlot = false ∧ s.slot s.namedSlot = some quarantined ∧ s.cond 0 = none ∧
       quarantined.inFlight = 0) ∧
    (withRecord false (bound [quarantined] ⟨some 0, none, none⟩)).cond 0 ≠ none ∧ one.slotIs 0 .quarantined = false := by
  refine ⟨⟨unlocked_of ?_, ?_⟩, ?_⟩
  all_goals decide +kernel

theorem witness_QueriesReport :
    CommandReady one ∧ one.slot one.namedSlot = some ctx ∧ failingGroup ctx = none ∧
      (damage [⟨0, .key⟩] one).slot 0 = some { ctx with checks := ⟨false, true, true⟩ } ∧ base.slot base.namedSlot = none ∧
      tagAt one.commandBlock 0x00 = none ∧ tagAt (commanded one [0, 1]).commandBlock 0x00 = some 1 ∧
      tagAt (commanded one [0xFF, 0xFF]).commandBlock 0x00 = some 65535 := by
  refine ⟨ready_of ?_, ?_⟩
  all_goals decide +kernel

/-- A slot named by an entry, one not named, and a RETIRING one. -/
theorem witness_SoftResetDropsFrames :
    (let s := queued (bound [ctx, standby, { ctx with state := .retiring, tag := 3 }] ⟨some 0, some 1, none⟩) protectJob
       .pending
     CommandReady s ∧ .lane (laneEntry protectJob .pending) ∈ s.queue ∧ s.slotIs 0 .retiring = false ∧
       s.slotIs 0 .loading = false ∧ s.slot 0 ≠ none ∧ s.slotIs 2 .retiring = true ∧
       raisable s 0 = true ∧ s.queue.countP (Entry.names 1) = 0) ∧
    (withRecord false one).cond 0 = some (holdRecord false) := by
  refine ⟨⟨ready_of ?_, ?_⟩, ?_⟩
  all_goals decide +kernel

/-- A WRITE_RECIPE block: recipe 15, three steps, tag length 8, maximum 100. -/
def recipeBytes (n : Byte) : List Byte :=
  [n, 3, 8, 0, 0, 100] ++ [1, 0, 0, 0] ++ [3, 0, 0xFF, 0xFF] ++ [6, 0, 0, 0]

theorem witness_RecipeCommandsChangeOneRecipe :
    (let s := commanded one (recipeBytes 15)
     Unlocked s ∧ (checkRecipe s.commandBlock s).toOption = some (15, recipe) ∧
       indexAt s.commandBlock 0x00 16 = some 15 ∧ (s.recipe 15).inFlight = 0) ∧
    (checkRecipe (commanded one (recipeBytes 16)).commandBlock one).toOption = none ∧
    indexAt (commanded one (recipeBytes 16)).commandBlock 0x00 16 = none ∧
    ((queued one protectJob .pending).recipe 0).inFlight ≠ 0 := by
  refine ⟨⟨unlocked_of ?_, ?_⟩, ?_⟩
  all_goals decide +kernel

theorem witness_LaneCommandsAct :
    (CommandReady (commanded one [1]) ∧ byteAt (commanded one [1]).commandBlock 0x00 = laneByte .laneB ∧
      (one.lane .laneB).state = .online) ∧
    ((offline one).lane .laneA).state = .offline ∧ byteAt one.commandBlock 0x00 = laneByte .laneA ∧
    byteAt (commanded one [2]).commandBlock 0x00 ≠ 0x00 ∧ byteAt (commanded one [2]).commandBlock 0x00 ≠ 0x01 := by
  refine ⟨⟨ready_of ?_, ?_⟩, ?_⟩
  all_goals decide +kernel

theorem witness_CollectDeletesRecord :
    CommandReady (withRecord false one) ∧ (withRecord false one).cond (withRecord false one).namedSlot =
      some (holdRecord false) ∧ (withRecord false one).attention = 0 :: [] ∧
      one.cond one.namedSlot = none ∧ one.attention = [] := by
  refine ⟨ready_of ?_, ?_⟩
  all_goals decide +kernel

/-! ## Witnesses: anchors and locks, the window, lines and power -/

/-- Anchor 7 BLANK and a key that is not 0; a key of 0; anchor 0 PROGRAMMED; each of the two writes in execution. -/
theorem witness_AnchorsWritten :
    (let s := commanded one ([7] ++ List.replicate 31 0 ++ List.replicate 32 1)
     Unlocked s ∧ indexAt s.commandBlock 0x00 8 = some 7 ∧ (s.anchor 7).state = .blank ∧
       wordAt s.commandBlock 0x20 32 256 ≠ 0) ∧
    (wordAt one.commandBlock 0x20 32 256 = 0 ∧ indexAt one.commandBlock 0x00 8 = some 0 ∧
      (one.anchor 0).state = .programmed) ∧
    ((executing one (.programming 7)).unit = .programming 7 ∧ (executing one (.programming 7)).copy.isSome = true) ∧
    ((executing one (.revoking 0)).unit = .revoking 0 ∧ AnchorState.defective ≠ .revoked) := by
  refine ⟨⟨unlocked_of ?_, ?_⟩, ?_⟩
  all_goals decide +kernel

theorem witness_AnchorStatesAndLocksReported : CommandReady { one with lockLine := true } := by
  refine ready_of ?_
  decide +kernel

/-- Tags 1 to 1 in range; a low tag of 0 and tags out of order not; a sticky range; index 4. -/
theorem witness_LockRangesSetAndCleared :
    (let s := commanded one [3, 1, 0, 1, 0, 1]
     Unlocked s ∧ indexAt s.commandBlock 0x00 4 = some 3 ∧ byteAt s.commandBlock 0x01 = 1 ∧
       wordAt s.commandBlock 0x02 2 16 = 1 ∧ wordAt s.commandBlock 0x04 2 16 = 1) ∧
    (wordAt one.commandBlock 0x02 2 16 = 0 ∧
      wordAt (commanded one [3, 1, 0, 2, 0, 1]).commandBlock 0x04 2 16 < 2 ∧
      indexAt (commanded one [4]).commandBlock 0x00 4 = none) ∧
    ((one.setLockRange 3 (some { lockRange with sticky := true })).lockRange 3).any (fun r => r.sticky) = true := by
  refine ⟨⟨unlocked_of ?_, ?_⟩, ?_⟩
  all_goals decide +kernel

/-- The last and first addresses of each kind; a READ about to begin, with bits left of a byte, and at the first bit of a
byte of the Result Block, before and behind it, of the queue length's high byte, and of its low byte with and without the
captured one. -/
theorem witness_WindowBytesWritten :
    (one.power = .running ∧ one.port = .deselected) ∧ (0x0F : Byte) < 0x10 ∧ (0x6F : Byte) < 0x71 ∧ (0x71 : Byte) ≠ 0x70 ∧
      (0x06 : Byte) < 0x07 ∧ (0x7F : Byte) < 0x80 ∧ (0xDF : Byte) < 0xE0 ∧
      (∀ r ∈ [(⟨0x7F, one.resultBlock, none, [], none⟩ : Reading), ⟨0x80, one.resultBlock, none, [], none⟩,
          ⟨0xDF, one.resultBlock, none, [], none⟩, ⟨0xE0, one.resultBlock, none, [], none⟩,
          ⟨0x03, one.resultBlock, none, [], none⟩, ⟨0x04, one.resultBlock, none, [], none⟩,
          ⟨0x04, one.resultBlock, some 7, [], none⟩, ⟨0x05, one.resultBlock, none, [true], some false⟩],
        ∃ s : State, s.power = .running ∧ s.port = .reading r) := by
  refine ⟨by decide +kernel, by decide, by decide, by decide, by decide, by decide, by decide, ?_⟩
  intro r _
  exact ⟨{ one with port := .reading r }, (by decide +kernel : one.power = .running), rfl⟩

theorem witness_LinesAndPowerAct :
    one.power ≠ .off ∧ ({ one with power := .off } : State).power = .off ∧
      (let s := { (executing one (.programming 7)).setAnchor 7 ⟨.blank, none, some .programming⟩ with power := .startUp }
       s.power = .startUp ∧ s.rstLine = false ∧ (s.anchor 7).openWrite = some .programming ∧
         (s.anchor 0).openWrite = none ∧ s.port = .deselected) ∧
      ((one.setAnchor 0 ⟨.programmed, some 7, some .revoking⟩).anchor 0).openWrite = some .revoking ∧
      ({ one with port := .ignoring } : State).port = .ignoring := by
  decide +kernel

theorem witness_RaiseCreatesOrMerges :
    raisable base 0 = false ∧ (raisable one 0 = true ∧ one.cond 0 = none) ∧
      raisable (withRecord false one) 0 = true ∧ (withRecord false one).cond 0 = some (holdRecord false) := by
  decide +kernel

/-! ## Witnesses: what every step keeps -/

/-- A frame in BODY under slot 0. -/
def busy : State := working (protectFrame .body)

theorem busy_slot (k : SlotNo) : busy.slot k = if k = 0 then some (inFlightCtx ctx) else none := by
  revert k; decide +kernel

theorem busy_cond (k : SlotNo) : busy.cond k = none := by revert k; decide +kernel

theorem busy_recipe (n : RecipeNo) : busy.recipe n = if n = 0 then ⟨some recipe, 1⟩ else ⟨none, 0⟩ := by
  revert n; decide +kernel

theorem busy_entry (t : Tag) : busy.entry t = if t = 1 then ⟨some 0, none, none⟩ else DirEntry.empty := by
  have h : busy.dir = [(1, ⟨some 0, none, none⟩)] := by decide +kernel
  by_cases ht : t = 1
  · subst ht; decide +kernel
  · rw [if_neg ht, State.entry, h, dirLookup, if_neg ht]; rfl

theorem busy_anchor (a : AnchorNo) : busy.anchor a = if a = 0 then ⟨.programmed, some 7, none⟩ else Anchor.delivered := by
  revert a; decide +kernel

theorem busy_queue : busy.queue = [.lane (laneEntry protectJob .pending)] := by decide +kernel

theorem busy_bound {t : Tag} {k : SlotNo} {p : Place} (h : (k, p) ∈ (busy.entry t).bound) : t = 1 ∧ k = 0 ∧ p = .active := by
  rw [busy_entry] at h
  split at h
  · rename_i ht
    simp [DirEntry.bound] at h
    exact ⟨ht, h⟩
  · simp [DirEntry.bound, DirEntry.empty] at h

theorem witness_StepKeepsBlocksAgreeing : BlocksAgree busy where
  attention := ⟨by decide +kernel, by decide +kernel⟩
  records := by unfold RecordsOnUsedSlots; decide +kernel
  counts :=
    { used := fun k c h => by
        rw [busy_slot] at h
        split at h
        · cases h; subst k; decide +kernel
        · cases h
      free := by decide +kernel
      recipes := by decide +kernel
      retiring := fun k c h hr => by
        rw [busy_slot] at h
        split at h
        · cases h; cases hr
        · cases h }
  formed := ⟨by decide +kernel, by decide +kernel⟩
  directory :=
    { bound := fun t k p h => by
        obtain ⟨rfl, rfl, rfl⟩ := busy_bound h
        exact ⟨inFlightCtx ctx, by decide +kernel, rfl, .inl rfl⟩
      listed := fun k c p h hp => by
        rw [busy_slot] at h
        split at h
        · cases h; subst k
          cases p
          · decide +kernel
          · cases hp
          · cases hp
        · cases h
      pair := fun t => by
        rw [busy_entry]
        split <;> decide +kernel
      onePlace := fun t k p q hp hq => (busy_bound hp).2.2.trans (busy_bound hq).2.2.symm
      markers := fun t j k p q hj hk _ => (busy_bound hj).2.1.trans (busy_bound hk).2.1.symm }
  unit :=
    { loading := fun k c h hl => by
        rw [busy_slot] at h
        split at h
        · cases h; cases hl
        · cases h
      unwrapping := fun u h => by
        have : busy.unit = .idle := by decide +kernel
        rw [this] at h; cases h
      copied := by decide +kernel }

theorem busy_lane (l : LaneId) :
    busy.lane l = if l = .laneA then ⟨.online, none, some (protectFrame .body), none⟩ else Lane.initial := by
  cases l <;> decide +kernel

theorem busy_work {l : LaneId} {f : WorkFrame} (h : (busy.lane l).work = some f) :
    l = .laneA ∧ f = protectFrame .body := by
  rw [busy_lane] at h
  cases l
  · cases h; exact ⟨rfl, rfl⟩
  · cases h

theorem busy_stage (l : LaneId) : (busy.lane l).stage = none := by cases l <;> decide +kernel

theorem busy_out (l : LaneId) : (busy.lane l).out = none := by cases l <;> decide +kernel

theorem busy_mem {e : LaneEntry} (h : Entry.lane e ∈ busy.queue) : e = laneEntry protectJob .pending := by
  rw [busy_queue, List.mem_singleton] at h; cases h; rfl

theorem witness_StepKeepsFramesMatched : FramesMatch busy where
  numbered := by decide +kernel
  stage := fun l f h => by rw [busy_stage] at h; cases h
  work := fun l f h => by
    obtain ⟨rfl, rfl⟩ := busy_work h
    exact ⟨laneEntry protectJob .pending, by rw [busy_queue]; exact List.mem_singleton.2 rfl, rfl, rfl, rfl⟩
  apart := fun l f g h _ => by rw [busy_stage] at h; cases h
  out := fun l f h => by rw [busy_out] at h; cases h
  pending := fun e h _ => by
    rw [busy_mem h]
    exact .inr ⟨protectFrame .body, by decide +kernel, rfl⟩
  finished := fun e h hf => by
    rw [busy_mem h] at hf
    obtain ⟨o, n, hf⟩ := hf
    cases hf
  sent := fun x l h _ => by
    have : busy.sending = none := by decide +kernel
    rw [this] at h; cases h
  streaming := fun j l n h => by
    have : busy.intake = .awaitJob := by decide +kernel
    rw [this] at h; cases h
  arriving := fun l f h _ => by rw [busy_stage] at h; cases h
  offline := fun l h => by
    rw [busy_lane] at h
    cases l <;> cases h

theorem inFlightCtx_sound : (inFlightCtx ctx).Sound where
  tagUsed := by decide
  recipesUsed := by decide
  ceilingLow := by decide
  ceilingHigh := by decide
  nextLow := by decide
  nextHigh := by decide
  lifeUsed := by decide
  lifeHigh := by decide
  markHigh := by decide
  keyHeld := by decide
  timerDraining := by decide

/-- The premises of the statement about fields and of the one about what lasts. -/
theorem witness_StepKeepsFieldsSound :
    ContextsSound busy ∧ RecipesSound busy ∧ LocksSound busy ∧ AnchorsSound busy ∧ RecordsSound busy ∧ QueueFits busy ∧
      HeldInReset busy ∧ busy.port.Sound := by
  refine ⟨?_, ?_, ?_, ⟨?_, ?_, ?_⟩, ?_, ?_, ?_, ?_⟩
  · intro k c h
    rw [busy_slot] at h
    split at h
    · cases h; exact inFlightCtx_sound
    · cases h
  · intro n d h
    rw [busy_recipe] at h
    split at h
    · cases h
      refine ⟨by decide, ?_, by decide, by decide⟩
      unfold RecipeDef.Formed; decide
    · cases h
  · intro n r h
    have : ∀ n : RangeNo, busy.lockRange n = none := by decide +kernel
    rw [this] at h; cases h
  · intro a
    rw [busy_anchor]
    split
    · exact ⟨rfl, by decide⟩
    · exact ⟨rfl, by decide⟩
  · intro _ a
    rw [busy_anchor]
    have : busy.unit = .idle := by decide +kernel
    rw [this]
    split <;> simp [Anchor.delivered]
  · intro _ a
    rw [busy_anchor]
    have : busy.unit = .idle := by decide +kernel
    rw [this]
    split <;> simp [Anchor.delivered]
  · intro k r h
    rw [busy_cond] at h; cases h
  · unfold QueueFits; decide +kernel
  · intro h
    exact absurd (by decide +kernel : busy.power = .running) h
  · rw [show busy.port = .deselected by decide +kernel]; trivial

/-- A REVOKED anchor and a sticky lock range in use. -/
theorem witness_LastingStateContinues :
    ((busy.setAnchor 1 ⟨.revoked, none, none⟩).anchor 1).state = .revoked ∧
      (busy.setLockRange 0 (some { lockRange with sticky := true })).lockRange 0 = some { lockRange with sticky := true } ∧
      (after (.keyFetch .laneA) busy).slot 0 = busy.slot 0 := by decide +kernel

/-- A RELEASE, a dispatch, a SOFT_RESET and a Start byte 09h at the end of a WRITE. -/
theorem witness_QueueKeepsJobHeaderOrder :
    (after (.release [] []) (finishedAs one protectJob .finished 22 1)).queue = [] ∧
      (after (.jobHeader (second 4) [] []) (holding firstProtect one)).queue.length = 1 ∧
      (after .softReset (queued one protectJob .pending)).queue = [] ∧
      (tickOf { queued one protectJob .pending with
        port := .writing 0x70 [false, false, false, false, true, false, false], serial := [.sckRise true] }).queue = [] := by
  decide +kernel

/-! ## One step on small states -/

theorem test_jobFirstWord_held_then_replaced :
    (after (.jobFirstWord ⟨firstProtect, true, false, 0⟩) one).intake = .jobWord firstProtect ∧
      (after (.jobFirstWord ⟨7, true, false, 0⟩) (holding firstProtect one)).intake = .jobWord 7 := by decide +kernel

theorem test_jobHeader_dispatches :
    (let t := after (.jobHeader (second 4) [] []) (holding firstProtect one)
     t.intake = .streaming protectJob .laneA 0 ∧ t.laneA.stage = some ⟨protectJob, [], false⟩ ∧
       t.queue = [.lane (laneEntry protectJob .pending)] ∧ (t.recipe 0).inFlight = 1 ∧
       t.slot 0 = some { ctx with nextSeq := 2, lifeLeft := 986, inFlight := 1 }) := by decide +kernel

theorem test_jobHeader_refuses_without_context :
    (after (.jobHeader (second 4) [] []) (holding 0x00090000 one)).queue =
      [.refused ⟨.noContext, .toProtect, 9, false, none⟩] := by decide +kernel

theorem test_frameWord_arrives_and_discardWord_ends :
    (after (.frameWord ⟨0x05060000, false, true, 2⟩) streaming).laneA.stage =
      some ⟨streamedJob, [1, 2, 3, 4, 5, 6], true⟩ ∧
    (after (.discardWord ⟨0, false, true, 0⟩) { one with intake := .discarding }).intake = .awaitJob := by
  decide +kernel

theorem test_stageToWork_and_keyFetch :
    (let s := (queued one protectJob .pending).setLane .laneA
       ⟨.online, some ⟨protectJob, [1, 2, 3, 4], true⟩, none, none⟩
     let t := after (.stageToWork .laneA) s
     let u := after (.keyFetch .laneA) t
     t.laneA.stage = none ∧ (t.laneA.work.map WorkFrame.phase) = some .keyFetch ∧
       (u.laneA.work.map WorkFrame.phase) = some .header ∧ (u.laneA.work.bind WorkFrame.fetched) = some fetched) := by
  decide +kernel

/-- The header of tag 1, marker 1, tag length 8, sequence 1, and the nonce of salt 9, generation 1 (Tables 3-3 and
10-6). -/
theorem test_header_of_protect :
    ((after (.header .laneA) (working (protectFrame .header))).laneA.work.map WorkFrame.header) =
      some [0x00, 0x01, 0x80, 0x00, 0x00, 0x00, 0x00, 0x00, 0x00, 0x01] ∧
    ((after (.header .laneA) (working (protectFrame .header))).laneA.work.bind WorkFrame.nonce) =
      some 0x000000090100000000000001 := by decide +kernel

theorem test_header_of_admit_malformed_writes_sequence :
    (let t := after (.header .laneA) (working (workFrame admitJob ([0, 2] ++ admitInput.drop 2) .header))
     (t.laneA.work.map WorkFrame.phase) = some (.done .malformed) ∧
       t.queue = [.lane { laneEntry admitJob .pending with seq := 6, parsed := true }]) := by decide +kernel

theorem test_body_and_tag_lengths :
    (let t := after (.body .laneA) (working (protectFrame .body))
     let u := after (.tag .laneA) t
     (t.laneA.work.map fun f => f.output.length) = some 14 ∧ (u.laneA.work.map fun f => f.output.length) = some 22 ∧
       (u.laneA.work.map WorkFrame.phase) = some (.done .finished)) := by decide +kernel

theorem test_workToOut_finishes_entry :
    (after (.workToOut .laneA) (working (protectFrame (.done .finished)))).queue =
      [.lane (laneEntry protectJob (.finished .finished 22))] := by decide +kernel

theorem test_laneFault_takes_lane_offline :
    (let t := after (.laneFault .laneA) (working (protectFrame .body))
     t.laneA = ⟨.offline, none, none, none⟩ ∧ t.laneDown = true ∧
       t.queue = [.lane (laneEntry protectJob (.ended .faulted))] ∧ (t.cond 0).map CondRecord.ending = some .cut ∧
       t.attention = [0]) := by decide +kernel

theorem test_release_passes_protect_and_resultWord_presents_it :
    (let t := after (.release [] []) (finishedAs one protectJob .finished 22 1)
     t.sending = some ⟨.passed, true, some 0, 1, 22, 1, some .laneA, 0⟩ ∧ t.queue = [] ∧
       (t.slot 0).map Context.framesProtected = some 1 ∧ (t.slot 0).map Context.inFlight = some 0 ∧
       frameOutWord t = some ⟨0x00800001, true, false, 0⟩ ∧
       frameOutWord (after .resultWord t) = some ⟨0x00000016, false, false, 0⟩) := by decide +kernel

theorem test_release_stale_at_watermark :
    (after (.release [] []) (finishedAs (bound [{ ctx with watermark := 7 }] ⟨some 0, none, none⟩) admitJob .verified 4
      7)).sending = some ⟨.stale, true, some 0, 1, 0, 7, none, 0⟩ := by decide +kernel

theorem test_drainTimerExpiry_frees_and_reports :
    (let t := after (.drainTimerExpiry 1) drained
     t.slot 1 = none ∧ t.entry 1 = ⟨some 0, none, none⟩ ∧ t.attention = [0] ∧
       (t.cond 0).map (fun r => (r.primary, r.reason)) = some (.drained, some .timer)) := by decide +kernel

/-- With time remaining no timer expires (R19). -/
theorem test_drainTimerExpiry_waits_for_zero :
    (after (.drainTimerExpiry 1) drain).slot 1 = some draining ∧ (after (.drainTimerExpiry 1) drain).attention = [] := by
  decide +kernel

theorem test_install_takes_slot_and_unwrap_holds_it :
    (let t := after .install (commanded one installBytes)
     t.slot 1 = some installed.loading ∧ t.unit = .unwrapping ⟨1, false, 7, none⟩ ∧ t.entry 2 = DirEntry.empty) := by
  decide +kernel

theorem test_succeed_takes_next_generation :
    ((after (.succeed []) one).slot 1).map (fun c => (c.state, c.generation, c.nextSeq)) = some (.loading, 2, 1) := by
  decide +kernel

theorem test_unwrapCompletion_needs_an_unwrap :
    (after .unwrapCompletion one).slot 0 = some ctx ∧ (after .unwrapCompletion one).commandDone = false := by
  decide +kernel

theorem test_activate_rolls_over :
    (let t := after (.activate []) (commanded pair [1])
     t.entry 1 = ⟨some 1, none, some 0⟩ ∧ t.slotIs 0 .draining = true ∧ t.slotIs 1 .active = true ∧
       byteAt t.resultBlock 0 = 0x00 ∧ byteAt t.resultBlock 1 = 0x03) := by decide +kernel

theorem test_retire_frees_or_keeps :
    (after (.retire []) one).slot 0 = none ∧
      (after (.retire []) (queued one protectJob .pending)).slotIs 0 .retiring = true := by decide +kernel

theorem test_modify_changes_budget :
    ((after (.modify []) (commanded one ([0, 0x20] ++ List.replicate 30 0 ++ [0, 2]))).slot 0).map
      (fun c => c.settings) = some { settings with drainBudget := 2 } := by decide +kernel

theorem test_purge_needs_quarantined :
    (after .purge (bound [quarantined] ⟨some 0, none, none⟩)).slot 0 = none ∧
      byteAt (after .purge one).resultBlock 0 = 0x03 := by decide +kernel

theorem test_query_reports_state_and_queryTag_pair :
    bytesAt (after (.query []) one).resultBlock 0 2 = [0x00, 0x07] ∧
      bytesAt (after .queryTag (commanded pair [0, 1])).resultBlock 0 5 = [0x00, 0x08, 0x00, 0x01, 0x02] := by
  decide +kernel

theorem test_softReset_drops_and_reports :
    (let t := after .softReset busy
     t.queue = [] ∧ t.laneA = Lane.initial ∧ (t.slot 0).map Context.inFlight = some 0 ∧
       (t.cond 0).map (fun r => (r.primary, r.ending)) = some (.framesLost, .discarded)) := by decide +kernel

theorem test_recipe_commands :
    (after .writeRecipe (commanded one (recipeBytes 15))).recipe 15 = ⟨some recipe, 0⟩ ∧
      (after .clearRecipe one).recipe 0 = ⟨none, 0⟩ ∧ byteAt (after .readRecipe one).resultBlock 0 = 0x00 := by
  decide +kernel

theorem test_lane_commands :
    (after .abortLanes busy).queue = [.lane (laneEntry protectJob (.ended .aborted))] ∧
      ((after .restoreLane (offline one)).lane .laneA).state = .online := by decide +kernel

theorem test_collect_deletes :
    (after .collect (withRecord true one)).cond 0 = none ∧ (after .collectNext (withRecord true one)).attention = [] ∧
      byteAt (after .collectNext one).resultBlock 0 = 0x16 := by decide +kernel

theorem test_programAnchor_opens_and_completes :
    (let s := commanded one ([7] ++ List.replicate 31 0 ++ List.replicate 32 1)
     let t := after .programAnchor s
     let u := after (.anchorProgramComplete (some (wordAt s.commandBlock 0x20 32 256))) t
     let v := after (.anchorProgramComplete none) t
     t.anchor 7 = ⟨.blank, none, some .programming⟩ ∧ (u.anchor 7).state = .programmed ∧
       (v.anchor 7).state = .defective ∧ byteAt v.resultBlock 0 = 0x14 ∧ byteAt u.commandBlock 0x20 = 0) := by
  decide +kernel

theorem test_revokeAnchor_opens_and_completes :
    (let t := after .revokeAnchor one
     t.anchor 0 = ⟨.programmed, some 7, some .revoking⟩ ∧
       (after (.anchorRevokeComplete .revoked) t).anchor 0 = ⟨.revoked, none, none⟩) := by decide +kernel

theorem test_lock_commands_and_reports :
    (let t := after .setLock (commanded one [3, 1, 0, 1, 0, 1])
     t.lockRange 3 = some ⟨1, 1, true⟩ ∧ byteAt (after .clearLock t).resultBlock 0 = 0x15 ∧
       bytesAt (after .readLocks t).resultBlock 20 6 = [0x01, 0x01, 0x00, 0x01, 0x00, 0x01] ∧
       bytesAt (after .readAnchorState t).resultBlock 2 2 = [0x01, 0x00]) := by decide +kernel

theorem test_badCommand_and_startRefused :
    byteAt (after (.badCommand 0x0A) one).resultBlock 0 = 0x01 ∧
      (after (.startRefused 0x07) unwrapping).startRefused = true := by decide +kernel

theorem test_window_writes :
    (after (.interruptFlagsWrite 0x02) { one with startRefused := true, laneDown := true }).laneDown = true ∧
      (after (.interruptFlagsWrite 0x02) { one with startRefused := true, laneDown := true }).startRefused = false ∧
      windowByte 0x06 (after (.interruptMaskWrite 0xF9) one) = 0x09 ∧
      byteAt (after (.registerWrite 0x6F 0xAB) one).commandBlock 95 = 0xAB ∧
      windowByte 0x6F (after (.registerWrite 0x6F 0xAB) one) = 0xAB ∧
      (after (.registerWrite 0x70 0x0A) one).commandDone = true := by decide +kernel

theorem test_lines_and_power :
    (after (.lockLineLevel true) one).lockLine = true ∧
      (let t := after .rstAssert one
       t.power = .startUp ∧ t.slot 0 = none ∧ (t.anchor 0).state = .programmed ∧ (after .startupEnd t).power = .startUp ∧
         (after .startupEnd (after .rstRelease t)).power = .running) ∧
      (after .powerLoss one).power = .off ∧ (after .powerOn (after .powerLoss one)).power = .startUp := by
  decide +kernel

/-! ## The Management Port, event by event -/

/-- A state in which the Result Block's first bytes are the given ones. -/
def shows (s : State) (bs : List Byte) : State := { s with resultBlock := blockOf bs }

/-- A READ from 80h goes on with the result that stood at its address byte, a new transaction shows the new one (R156). -/
theorem test_read_keeps_the_result_it_began_with :
    (let s := (shows one [0xA5, 0x3C]).lines (.csFall :: (bytePins 0x5A ++ bytePins 0x80))
     let bits : List SerialEvent := (List.replicate 8 [.sckRise false, .sckFall]).flatten
     let t := shows s [0x11, 0x22]
     samples bits t = (bitsOfByte 0xA5).map some ∧ samples bits (t.lines bits) = (bitsOfByte 0x3C).map some ∧
       samples bits ((t.lines [.csRise]).lines (.csFall :: (bytePins 0x5A ++ bytePins 0x80))) =
         (bitsOfByte 0x11).map some) := by decide +kernel

/-- The low byte of the Attention Queue length is the one that stood with the high byte (R189). -/
theorem test_read_captures_the_queue_length :
    (let s := ({ one with attention := List.replicate 256 0 } : State).lines (.csFall :: (bytePins 0x5A ++ bytePins 0x03))
     let bits : List SerialEvent := (List.replicate 8 [.sckRise false, .sckFall]).flatten
     let t := { s with attention := List.replicate 255 0 }
     samples bits t = (bitsOfByte 0x01).map some ∧ samples bits (t.lines bits) = (bitsOfByte 0x00).map some) := by
  decide +kernel

/-- A WRITE from 6Fh writes the last byte of the Command Block, then Start; a byte broken off by CS# is discarded
(R189, R190). -/
theorem test_write_runs_on_to_start :
    (let s := one.lines (.csFall :: (bytePins 0xA5 ++ bytePins 0x6F ++ bytePins 0xAB))
     let t := s.lines (bytePins 0x0A)
     byteAt s.commandBlock 95 = 0xAB ∧ s.port = .writing 0x70 [] ∧ t.commandDone = true ∧ t.port = .writing 0x71 [] ∧
       s.lines ((bytePins 0x0A).take 14 ++ [.csRise]) = { s with port := .deselected }) := by decide +kernel

/-- An instruction that is neither READ nor WRITE, and a transaction begun in start-up, are ignored to their end, SDO at
high impedance (R189). -/
theorem test_transactions_ignored :
    (one.lines (.csFall :: (bytePins 0x5B ++ bytePins 0x10 ++ bytePins 0xFF))) = { one with port := .ignoring } ∧
      sdo { one with port := .ignoring } = none ∧
      (let s := ({ one with power := .startUp } : State).lines [.csFall]
       s.port = .ignoring ∧ (({ s with power := .running }).lines (bytePins 0x5A)).port = .ignoring) := by decide +kernel

/-- RST# abandons a transaction: its rest is ignored, and the next one is taken after start-up (R189). -/
theorem test_rst_abandons_a_transaction :
    (let s := after .rstAssert (one.lines (.csFall :: bytePins 0xA5))
     let t := after .startupEnd (after .rstRelease s)
     s.port = .ignoring ∧ (t.lines (bytePins 0x10 ++ bytePins 0xFF)).commandBlock = t.commandBlock ∧
       (t.lines [.csRise, .csFall]).port = .instruction []) := by decide +kernel

/-- A step on an empty queue takes the next event of the serial line, and one with a command waiting does not. -/
theorem test_step_takes_the_next_event :
    (let s := { one with serial := [.csFall, .csRise] }
     (tickOf s).serial = [.csRise] ∧ (tickOf s).port = .instruction [] ∧
       (after .resultWord s).serial = [.csFall, .csRise]) := by decide +kernel

end Sys2Proof.Tests
end

section
/-! PROOFS. The Tag Directory against the Context Table, tag by tag, and what an update of a record leaves. -/

namespace Sys2Proof.Machine
open Sys2Proof

/-! ## Places of an entry -/

/-- The slot in a place of an entry. -/
def DirEntry.slotIn (e : DirEntry) : Place → Option SlotNo
  | .active => e.active
  | .standby => e.standby
  | .draining => e.draining

theorem DirEntry.mem_bound {e : DirEntry} {k : SlotNo} {p : Place} : (k, p) ∈ e.bound ↔ e.slotIn p = some k := by
  cases p <;> simp [DirEntry.bound, DirEntry.slotIn, eq_comm]

theorem DirEntry.mem_bound_empty (b : SlotNo × Place) : b ∉ DirEntry.empty.bound := by
  simp [DirEntry.bound, DirEntry.empty]

theorem DirEntry.ne_empty_of_mem {e : DirEntry} {b : SlotNo × Place} (h : b ∈ e.bound) : e ≠ DirEntry.empty :=
  fun he => DirEntry.mem_bound_empty b (he ▸ h)

theorem DirEntry.bound_without (e : DirEntry) (k : SlotNo) : (e.without k).bound = e.bound.filter fun b => b.1 != k := by
  obtain ⟨a, b, c⟩ := e
  have one : ∀ (o : Option SlotNo) (p : Place),
      ((o.filter fun j => j != k).map fun j => (j, p)).toList =
        ((o.map fun j => (j, p)).toList).filter fun b => b.1 != k := by
    intro o p
    cases o with
    | none => rfl
    | some j => by_cases h : j = k <;> simp [Option.filter, h]
  simp [DirEntry.bound, DirEntry.without, one]

theorem DirEntry.mem_bound_without {e : DirEntry} {j k : SlotNo} {p : Place} :
    (j, p) ∈ (e.without k).bound ↔ (j, p) ∈ e.bound ∧ j ≠ k := by
  simp [DirEntry.bound_without]

/-- A tag with a bound slot is in use (R27). -/
theorem DirectoryFormed.tag_used {s : State} (h : DirectoryFormed s) {t : Tag} {b : SlotNo × Place}
    (hb : b ∈ (s.entry t).bound) : t ≠ 0 := by
  have found : ∀ d : List (Tag × DirEntry), dirLookup d t ≠ DirEntry.empty → ∃ p ∈ d, p.1 = t := by
    intro d
    induction d with
    | nil => intro hn; exact absurd rfl hn
    | cons p d ih =>
      intro hn
      by_cases ht : t = p.1
      · exact ⟨p, by simp, ht.symm⟩
      · obtain ⟨q, hq, he⟩ := ih (by simpa [dirLookup, ht] using hn)
        exact ⟨q, by simp [hq], he⟩
  obtain ⟨p, hp, rfl⟩ := found s.dir (DirEntry.ne_empty_of_mem hb)
  exact (h.2 p hp).1

/-- Storing an entry keeps the directory's form, under a tag in use, or when the entry is empty (R27). -/
theorem DirectoryFormed.setEntry {s : State} (h : DirectoryFormed s) {t : Tag} {e : DirEntry}
    (ht : t ≠ 0 ∨ e = DirEntry.empty) : DirectoryFormed (s.setEntry t e) := by
  by_cases h0 : t = 0
  · obtain rfl := ht.resolve_left (fun hn => hn h0)
    subst h0
    have same : dirStore s.dir 0 DirEntry.empty = s.dir := by
      cases hd : s.dir with
      | nil => simp [dirStore, dirCons]
      | cons p d =>
        have hp : p.1 ≠ 0 := (h.2 p (by simp [hd])).1
        simp [dirStore, dirCons]
        exact fun h0 => absurd h0 hp
    have : s.setEntry 0 DirEntry.empty = s := by unfold State.setEntry; rw [same]
    rwa [this]
  · obtain ⟨h1, h2, -⟩ := dirStore_formed s.dir t e h0 h.1 h.2
    exact ⟨h1, h2⟩

/-! ## The Tag Directory against the Context Table, one tag at a time -/

/-- What `DirectoryMatches` says of one tag (R27 to R29). -/
structure TagMatches (s : State) (t : Tag) : Prop where
  bound : ∀ (k : SlotNo) (p : Place), (k, p) ∈ (s.entry t).bound →
    ∃ c, s.slot k = some c ∧ c.tag = t ∧ (c.state = p.state ∨ c.state = .quarantined)
  listed : ∀ (k : SlotNo) (c : Context) (p : Place), s.slot k = some c → c.tag = t → c.state = p.state →
    (k, p) ∈ (s.entry t).bound
  pair : (s.entry t).bound.length ≤ 2
  onePlace : ∀ (k : SlotNo) (p q : Place), (k, p) ∈ (s.entry t).bound → (k, q) ∈ (s.entry t).bound → p = q
  markers : ∀ (j k : SlotNo) (p q : Place), (j, p) ∈ (s.entry t).bound → (k, q) ∈ (s.entry t).bound →
    slotMarker s j = slotMarker s k → j = k

theorem directoryMatches_iff {s : State} : DirectoryMatches s ↔ ∀ t, TagMatches s t := by
  constructor
  · intro h t
    exact ⟨h.bound t, fun k c p hk ht hp => ht ▸ h.listed k c p hk hp, h.pair t, h.onePlace t, h.markers t⟩
  · intro h
    exact ⟨fun t => (h t).bound, fun k c p hk hp => (h c.tag).listed k c p hk rfl hp, fun t => (h t).pair,
      fun t => (h t).onePlace, fun t => (h t).markers⟩

/-- A tag whose entry and whose slots stay as they were still matches. -/
theorem TagMatches.congr {s u : State} {t : Tag} (h : TagMatches s t) (he : u.entry t = s.entry t)
    (hs : ∀ (k : SlotNo) (c : Context), c.tag = t → (s.slot k = some c ↔ u.slot k = some c)) : TagMatches u t := by
  have hm : ∀ (k : SlotNo) (p : Place), (k, p) ∈ (s.entry t).bound → slotMarker u k = slotMarker s k := by
    intro k p hb
    obtain ⟨c, hc, ht, -⟩ := h.bound k p hb
    simp [slotMarker, hc, (hs k c ht).1 hc]
  constructor
  · intro k p hb
    obtain ⟨c, hc, ht, hp⟩ := h.bound k p (he ▸ hb)
    exact ⟨c, (hs k c ht).1 hc, ht, hp⟩
  · intro k c p hk ht hp
    exact he ▸ h.listed k c p ((hs k c ht).2 hk) ht hp
  · exact he ▸ h.pair
  · intro k p q
    rw [he]
    exact h.onePlace k p q
  · intro j k p q hj hk
    rw [he] at hj hk
    rw [hm j p hj, hm k q hk]
    exact h.markers j k p q hj hk

/-- A change of one tag's entry and of slots of that tag leaves the other tags to match. -/
theorem DirectoryMatches.update {s u : State} (t : Tag) (h : DirectoryMatches s)
    (he : ∀ x ≠ t, u.entry x = s.entry x)
    (hs : ∀ (k : SlotNo) (c : Context), c.tag ≠ t → (s.slot k = some c ↔ u.slot k = some c))
    (ht : TagMatches u t) : DirectoryMatches u := by
  refine directoryMatches_iff.2 fun x => ?_
  by_cases hx : x = t
  · exact hx ▸ ht
  · exact (directoryMatches_iff.1 h x).congr (he x hx) fun k c hc => hs k c (hc ▸ hx)

/-- A slot that is bound stands in one place of one tag (R28). -/
theorem DirectoryMatches.slot_of_bound {s : State} (h : DirectoryMatches s) {t : Tag} {k : SlotNo} {p : Place}
    (hb : (k, p) ∈ (s.entry t).bound) {c : Context} (hc : s.slot k = some c) :
    c.tag = t ∧ (c.state = p.state ∨ c.state = .quarantined) := by
  obtain ⟨d, hd, h1, h2⟩ := h.bound t k p hb
  obtain rfl : c = d := Option.some.inj (hc.symm.trans hd)
  exact ⟨h1, h2⟩

/-! ## What an update of a record leaves as it was -/

/-- What an update of a record that neither binds nor unbinds nor rolls over keeps: the tag, the generation, the
in-flight count, the state unless the slot is quarantined, and from a sound record the ranges of the fields and
what lasts. -/
structure Context.Upkeep (c d : Context) : Prop where
  tag : d.tag = c.tag
  generation : d.generation = c.generation
  inFlight : d.inFlight = c.inFlight
  state : d.state = c.state ∨ c.state.live = true ∧ d.state = .quarantined
  key : d.state = .loading → d.key = c.key
  sound : c.Sound → d.Sound
  continues : c.Sound → c.Continues d

theorem Context.Continues.refl (c : Context) : c.Continues c :=
  ⟨rfl, rfl, rfl, rfl, rfl, rfl, BitVec.le_refl _, BitVec.le_refl _, BitVec.le_refl _, id, id⟩

theorem Context.Continues.trans {a b c : Context} (h : a.Continues b) (g : b.Continues c) : a.Continues c where
  tag := g.tag.trans h.tag
  generation := g.generation.trans h.generation
  anchor := g.anchor.trans h.anchor
  keyWidth := g.keyWidth.trans h.keyWidth
  salt := g.salt.trans h.salt
  lifeInstalled := g.lifeInstalled.trans h.lifeInstalled
  watermark := BitVec.le_trans h.watermark g.watermark
  nextSeq := BitVec.le_trans h.nextSeq g.nextSeq
  lifeLeft := BitVec.le_trans g.lifeLeft h.lifeLeft
  spent := g.spent ∘ h.spent
  lowReported := g.lowReported ∘ h.lowReported

theorem Context.Upkeep.refl (c : Context) : c.Upkeep c :=
  ⟨rfl, rfl, rfl, .inl rfl, fun _ => rfl, id, fun _ => .refl c⟩

theorem rel_right {α : Type} {R : α → α → Prop} {x y : Option α} (h : Option.Rel R x y) {b : α} (hb : y = some b) :
    ∃ a, x = some a ∧ R a b := by
  subst hb
  cases h with | some r => exact ⟨_, rfl, r⟩

theorem rel_left {α : Type} {R : α → α → Prop} {x y : Option α} (h : Option.Rel R x y) {a : α} (ha : x = some a) :
    ∃ b, y = some b ∧ R a b := by
  subst ha
  cases h with | some r => exact ⟨_, rfl, r⟩

theorem rel_refl {α : Type} {R : α → α → Prop} (h : ∀ a, R a a) (x : Option α) : Option.Rel R x x := by
  cases x with
  | none => exact .none
  | some a => exact .some (h a)

theorem rel_mono {α : Type} {R Q : α → α → Prop} (h : ∀ a b, R a b → Q a b) {x y : Option α} (r : Option.Rel R x y) :
    Option.Rel Q x y := by
  cases r with
  | none => exact .none
  | some r => exact .some (h _ _ r)

/-- A slot that is not in use stays so, and one in use keeps its record up. -/
def SlotsKept (s t : State) : Prop := ∀ k : SlotNo, Option.Rel Context.Upkeep (s.slot k) (t.slot k)

theorem SlotsKept.some_right {s t : State} (h : SlotsKept s t) {k : SlotNo} {d : Context} (hd : t.slot k = some d) :
    ∃ c, s.slot k = some c ∧ c.Upkeep d := rel_right (h k) hd

theorem SlotsKept.some_left {s t : State} (h : SlotsKept s t) {k : SlotNo} {c : Context} (hc : s.slot k = some c) :
    ∃ d, t.slot k = some d ∧ c.Upkeep d := rel_left (h k) hc

theorem SlotsKept.none_iff {s t : State} (h : SlotsKept s t) (k : SlotNo) : s.slot k = none ↔ t.slot k = none := by
  have hk := h k
  generalize s.slot k = x at hk ⊢
  generalize t.slot k = y at hk ⊢
  cases hk <;> simp

/-- A context stays where it is bound: tag, generation, and state unless it is quarantined (R29, R33). -/
structure Context.Stays (c d : Context) : Prop where
  tag : d.tag = c.tag
  generation : d.generation = c.generation
  state : d.state = c.state ∨ d.state = .quarantined

theorem Context.Stays.refl (c : Context) : c.Stays c := ⟨rfl, rfl, .inl rfl⟩

theorem Place.state_ne_quarantined (p : Place) : p.state ≠ .quarantined := by
  cases p <;> exact CtxState.noConfusion

/-- The directory stays matched if bound contexts stay where they are bound and no other comes to be in the state of a
place. -/
theorem DirectoryMatches.of_bound {s t : State} (h : DirectoryMatches s) (hd : t.dir = s.dir)
    (hb : ∀ (x : Tag) (k : SlotNo) (p : Place), (k, p) ∈ (s.entry x).bound →
      Option.Rel Context.Stays (s.slot k) (t.slot k))
    (hl : ∀ (k : SlotNo) (d : Context) (p : Place), t.slot k = some d → d.state = p.state →
      ∃ c, s.slot k = some c ∧ c.Stays d) : DirectoryMatches t := by
  have he : ∀ x, t.entry x = s.entry x := entry_of_dir hd
  have hm : ∀ x j p, (j, p) ∈ (s.entry x).bound → slotMarker t j = slotMarker s j := by
    intro x j p hj
    have hr := hb x j p hj
    unfold slotMarker
    generalize s.slot j = c at hr ⊢
    generalize t.slot j = d at hr ⊢
    cases hr with
    | none => rfl
    | some r => simp [Context.marker, r.generation]
  constructor
  · intro x k p hk
    rw [he] at hk
    obtain ⟨c, hc, ht, hs⟩ := h.bound x k p hk
    obtain ⟨d, hd, r⟩ := rel_left (hb x k p hk) hc
    refine ⟨d, hd, r.tag.trans ht, ?_⟩
    rcases r.state with e | e
    · rwa [e]
    · exact .inr e
  · intro k d p hk hp
    obtain ⟨c, hc, r⟩ := hl k d p hk hp
    rw [he, r.tag]
    refine h.listed k c p hc ?_
    rcases r.state with e | e
    · rw [← e, hp]
    · exact absurd (hp.symm.trans e) p.state_ne_quarantined
  · intro x; rw [he]; exact h.pair x
  · intro x k p q; rw [he]; exact h.onePlace x k p q
  · intro x j k p q hj hk
    rw [he] at hj hk
    rw [hm x j p hj, hm x k q hk]
    exact h.markers x j k p q hj hk

/-- Contexts that stay where they are bound keep the directory matched. -/
theorem DirectoryMatches.of_stays {s t : State} (h : DirectoryMatches s)
    (hk : ∀ k, Option.Rel Context.Stays (s.slot k) (t.slot k)) (hd : t.dir = s.dir) : DirectoryMatches t :=
  h.of_bound hd (fun _ k _ _ => hk k) fun k _ _ hd _ => rel_right (hk k) hd

/-- A slot that is not bound, before or after, may change. -/
theorem DirectoryMatches.of_unbound {s t : State} (h : DirectoryMatches s) {k : SlotNo} (hd : t.dir = s.dir)
    (unbound : ∀ x p, (k, p) ∉ (s.entry x).bound) (hs : ∀ j ≠ k, t.slot j = s.slot j)
    (hk : ∀ (d : Context) (p : Place), t.slot k = some d → d.state ≠ p.state) : DirectoryMatches t := by
  refine h.of_bound hd (fun x j p hj => ?_) fun j d p hj hp => ?_
  · rw [hs j fun e => unbound x p (e ▸ hj)]
    exact rel_refl .refl _
  · have hne : j ≠ k := fun e => hk d p (e ▸ hj) hp
    exact ⟨d, hs j hne ▸ hj, .refl d⟩

/-- A slot in use that stands in no state of a place, and is not QUARANTINED, is not bound (R28). -/
theorem DirectoryMatches.unbound_of_state {s : State} (h : DirectoryMatches s) {k : SlotNo} {c : Context}
    (hc : s.slot k = some c) (hp : ∀ p : Place, c.state ≠ p.state) (hq : c.state ≠ .quarantined) (x : Tag) (p : Place) :
    (k, p) ∉ (s.entry x).bound := fun hb =>
  (h.slot_of_bound hb hc).2.elim (hp p) hq

/-- Keeping records up keeps the directory matched: a quarantined slot keeps its place (R33). -/
theorem DirectoryMatches.of_kept {s t : State} (h : DirectoryMatches s) (hk : SlotsKept s t) (hd : t.dir = s.dir) :
    DirectoryMatches t := by
  exact h.of_stays (fun k => rel_mono (fun _ _ r => ⟨r.tag, r.generation, r.state.imp id And.right⟩) (hk k)) hd

end Sys2Proof.Machine
end

section
/-! PROOFS. The agreements between the blocks with the counts given from outside, and changes beside the contexts. -/

namespace Sys2Proof.Machine
open Sys2Proof

/-! ## The agreements, with the counts of LANE entries given from outside -/

/-- `BlocksAgree` with the numbers of LANE entries naming each slot and each recipe given from outside, so that it can be
followed through a step in which the Return Queue and the in-flight counts change at different points. -/
structure Agrees (n : SlotNo → Nat) (m : RecipeNo → Nat) (s : State) : Prop where
  attention : AttentionMatches s
  records : RecordsOnUsedSlots s
  used : ∀ (k : SlotNo) (c : Context), s.slot k = some c → c.inFlight = n k
  free : ∀ k : SlotNo, s.slot k = none → n k = 0
  recipes : ∀ i : RecipeNo, (s.recipe i).inFlight = m i
  retiring : ∀ (k : SlotNo) (c : Context), s.slot k = some c → c.state = .retiring → 0 < n k
  formed : DirectoryFormed s
  directory : DirectoryMatches s
  unit : UnitMatches s

theorem blocksAgree_iff {s : State} :
    BlocksAgree s ↔ Agrees (entriesNaming s) (entriesNamingRecipe s) s := by
  constructor
  · intro h
    exact ⟨h.attention, h.records, h.counts.used, h.counts.free, h.counts.recipes,
      fun k c hk hc => h.counts.used k c hk ▸ h.counts.retiring k c hk hc, h.formed, h.directory, h.unit⟩
  · intro h
    exact ⟨h.attention, h.records, ⟨h.used, h.free, h.recipes, fun k c hk hc => h.used k c hk ▸ h.retiring k c hk hc⟩,
      h.formed, h.directory, h.unit⟩

theorem BlocksAgree.of_counts {t : State} {n : SlotNo → Nat} {m : RecipeNo → Nat} (h : Agrees n m t)
    (hn : ∀ k, entriesNaming t k = n k) (hm : ∀ i, entriesNamingRecipe t i = m i) : BlocksAgree t := by
  obtain rfl : entriesNaming t = n := funext hn
  obtain rfl : entriesNamingRecipe t = m := funext hm
  exact blocksAgree_iff.2 h

theorem raisable_iff {s : State} {k : SlotNo} : raisable s k = true ↔ ∃ c, s.slot k = some c ∧ c.state ≠ .loading := by
  unfold raisable
  cases s.slot k <;> simp

theorem slotIs_iff {s : State} {k : SlotNo} {x : CtxState} :
    s.slotIs k x = true ↔ ∃ c, s.slot k = some c ∧ c.state = x := by
  unfold State.slotIs
  cases s.slot k <;> simp

/-! ## What changes beside the contexts -/

/-- Two lists of entries of the Return Queue name the same slots and recipes, entry by entry. -/
def SameNames : List Entry → List Entry → Prop :=
  List.Forall₂ fun d e => (∀ k, Entry.names k e = Entry.names k d) ∧ ∀ i, Entry.namesRecipe i e = Entry.namesRecipe i d

theorem SameNames.refl (q : List Entry) : SameNames q q := List.forall₂_same.2 fun _ _ => ⟨fun _ => rfl, fun _ => rfl⟩

theorem SameNames.map {f : Entry → Entry} (q : List Entry)
    (h : ∀ d, (∀ k, Entry.names k (f d) = Entry.names k d) ∧ ∀ i, Entry.namesRecipe i (f d) = Entry.namesRecipe i d) :
    SameNames q (q.map f) := List.forall₂_map_right_iff.2 (List.forall₂_same.2 fun d _ => h d)

theorem SameNames.countP_names {p q : List Entry} (h : SameNames p q) (k : SlotNo) :
    q.countP (Entry.names k) = p.countP (Entry.names k) := by
  induction h with
  | nil => rfl
  | cons h _ ih => simp [List.countP_cons, ih, h.1 k]

theorem SameNames.countP_namesRecipe {p q : List Entry} (h : SameNames p q) (i : RecipeNo) :
    q.countP (Entry.namesRecipe i) = p.countP (Entry.namesRecipe i) := by
  induction h with
  | nil => rfl
  | cons h _ ih => simp [List.countP_cons, ih, h.2 i]

theorem endEntry_names (ids : List Nat) (v : EndVerdict) (d : Entry) :
    (∀ k, Entry.names k (endEntry ids v d) = Entry.names k d) ∧
      ∀ i, Entry.namesRecipe i (endEntry ids v d) = Entry.namesRecipe i d := by
  cases d with
  | refused e => exact ⟨fun _ => rfl, fun _ => rfl⟩
  | lane e => simp only [endEntry]; split <;> [simp; (split <;> simp [Entry.names, Entry.namesRecipe]);
      (split <;> simp [Entry.names, Entry.namesRecipe])]

theorem finishEntry_names (id : Nat) (o : LaneOutcome) (n : Nat) (d : Entry) :
    (∀ k, Entry.names k (finishEntry id o n d) = Entry.names k d) ∧
      ∀ i, Entry.namesRecipe i (finishEntry id o n d) = Entry.namesRecipe i d := by
  cases d with
  | refused e => exact ⟨fun _ => rfl, fun _ => rfl⟩
  | lane e => simp only [finishEntry]; split <;> simp [Entry.names, Entry.namesRecipe]

theorem writeSeq_names (id : Nat) (seq : SeqNo) (d : Entry) :
    (∀ k, Entry.names k (writeSeq id seq d) = Entry.names k d) ∧
      ∀ i, Entry.namesRecipe i (writeSeq id seq d) = Entry.namesRecipe i d := by
  cases d with
  | refused e => exact ⟨fun _ => rfl, fun _ => rfl⟩
  | lane e => simp only [writeSeq]; split <;> simp [Entry.names, Entry.namesRecipe]

/-- A change beside the Context Table and the blocks that go with it: the lanes, the intake, what the entries of the
Return Queue stand for, Frame Out, and the Register Window. -/
structure Aside (s t : State) : Prop where
  frame : t = { s with
    intake := t.intake, lastLane := t.lastLane, laneA := t.laneA, laneB := t.laneB, queue := t.queue
    sending := t.sending, copy := t.copy, commandBlock := t.commandBlock, resultBlock := t.resultBlock
    commandDone := t.commandDone, startRefused := t.startRefused, laneDown := t.laneDown, mask := t.mask
    nextJob := t.nextJob }
  queue : SameNames s.queue t.queue
  copied : s.copy.isSome = true → t.copy.isSome = true

/-- A change beside the contexts that leaves the queue and the copy. -/
theorem Aside.of_frame {s t : State} (h : t = { s with
    intake := t.intake, lastLane := t.lastLane, laneA := t.laneA, laneB := t.laneB
    sending := t.sending, commandBlock := t.commandBlock, resultBlock := t.resultBlock
    commandDone := t.commandDone, startRefused := t.startRefused, laneDown := t.laneDown, mask := t.mask
    nextJob := t.nextJob }) : Aside s t := by
  have hq : t.queue = s.queue := by rw [h]
  have hc : t.copy = s.copy := by rw [h]
  refine ⟨?_, ?_, ?_⟩
  · rw [hq, hc]; exact h
  · rw [hq]; exact .refl _
  · rw [hc]; exact id

theorem Aside.setLane (s : State) (l : LaneId) (x : Lane) : Aside s (s.setLane l x) :=
  .of_frame (by cases l <;> rfl)

theorem Aside.endJobs (ids : List Nat) (v : EndVerdict) (s : State) : Aside s (endJobs ids v s) :=
  ⟨rfl, .map _ (endEntry_names ids v), id⟩

theorem Aside.setLane_map_queue (s : State) (l : LaneId) (x : Lane) {f : Entry → Entry}
    (h : ∀ d, (∀ k, Entry.names k (f d) = Entry.names k d) ∧ ∀ i, Entry.namesRecipe i (f d) = Entry.namesRecipe i d) :
    Aside s { s.setLane l x with queue := s.queue.map f } :=
  ⟨by cases l <;> rfl, .map _ h, by cases l <;> exact id⟩

/-- A command of one event completes (R156). -/
theorem Aside.post {c : CommandCopy} {r : ResultCode} {f : List Byte} {s : State} (h : s.unit = .idle) :
    Aside s (post c r f s) := .of_frame (by simp only [Machine.post, ← h])

end Sys2Proof.Machine
end

section
/-! PROOFS. Each part of the agreements, operation by operation. -/

namespace Sys2Proof.Machine
open Sys2Proof

/-! ## Each part of the agreements, operation by operation -/

theorem AttentionMatches.raise {s : State} (h : AttentionMatches s) (r : Raise) (k : SlotNo) :
    AttentionMatches (raiseOn r k s) := by
  cases hr : raisable s k with
  | false => rwa [raiseOn_not_raisable hr]
  | true =>
    cases hc : s.cond k with
    | none =>
      have hk : k ∉ s.attention := fun hk => by simpa [hc] using (h.2 k).1 hk
      refine ⟨?_, fun j => ?_⟩
      · simp [raiseOn_attention, hr, hc, List.nodup_append, h.1]
        exact fun a ha e => hk (e ▸ ha)
      · simp only [raiseOn_attention, raiseOn_cond, hr, hc, and_true, if_true, List.mem_append, h.2 j, List.mem_singleton]
        by_cases hj : k = j
        · simp [hj]
        · simp [hj, Ne.symm hj]
    | some c =>
      refine ⟨by simp [raiseOn_attention, hc, h.1], fun j => ?_⟩
      have hj : ((raiseOn r k s).cond j).isSome = (s.cond j).isSome := by
        rw [raiseOn_cond]
        split
        · rename_i hk; simp [← hk.1, hc]
        · rfl
      rw [hj, ← h.2 j]
      simp [raiseOn_attention, hc]

theorem AttentionMatches.of_isSome {s t : State} (h : AttentionMatches s) (ha : t.attention = s.attention)
    (hc : ∀ k, (t.cond k).isSome = (s.cond k).isSome) : AttentionMatches t :=
  ⟨ha ▸ h.1, fun k => by rw [ha, hc]; exact h.2 k⟩

theorem AttentionMatches.delete {s : State} (h : AttentionMatches s) (k : SlotNo) : AttentionMatches (deleteCond k s) := by
  refine ⟨h.1.filter _, fun j => ?_⟩
  rw [deleteCond_attention, deleteCond_cond, List.mem_filter, h.2 j]
  by_cases hj : k = j
  · simp [hj]
  · simp [hj, Ne.symm hj]

/-- Records stand on used slots as long as no slot with a record leaves use. -/
theorem RecordsOnUsedSlots.of_imp {s t : State} (h : RecordsOnUsedSlots s)
    (hc : ∀ k, (t.cond k).isSome = true → (s.cond k).isSome = true)
    (hr : ∀ k, (t.cond k).isSome = true → raisable s k = true → raisable t k = true) : RecordsOnUsedSlots t :=
  fun k hk => hr k hk (h k (hc k hk))

theorem raisable_of_slot {s t : State} {k : SlotNo} (h : t.slot k = s.slot k) : raisable t k = raisable s k := by
  simp [raisable, h]

theorem SlotsKept.raisable {s t : State} (h : SlotsKept s t) {k : SlotNo} (hr : raisable s k = true) :
    raisable t k = true := by
  obtain ⟨c, hc, hl⟩ := raisable_iff.1 hr
  obtain ⟨d, hd, hu⟩ := h.some_left hc
  refine raisable_iff.2 ⟨d, hd, ?_⟩
  rcases hu.state with e | ⟨-, e⟩ <;> rw [e]
  · exact hl
  · exact CtxState.noConfusion

theorem UnitMatches.of_kept {s t : State} (h : UnitMatches s) (hk : SlotsKept s t) (hu : t.unit = s.unit)
    (hc : s.copy.isSome = true → t.copy.isSome = true) : UnitMatches t := by
  have loading : ∀ {c d : Context}, c.Upkeep d → d.state = .loading → c.state = .loading := by
    intro c d up hd
    rcases up.state with e | ⟨-, e⟩
    · rw [← e, hd]
    · rw [hd] at e; cases e
  constructor
  · intro k d hd hl
    obtain ⟨c, hc, up⟩ := hk.some_right hd
    obtain ⟨h1, h2, h3, h4⟩ := h.loading k c hc (loading up hl)
    exact ⟨up.tag ▸ h1, (up.key hl).trans h2, up.inFlight.trans h3, hu ▸ h4⟩
  · intro u e
    obtain ⟨c, hc, hl⟩ := slotIs_iff.1 (h.unwrapping u (hu ▸ e))
    obtain ⟨d, hd, up⟩ := hk.some_left hc
    refine slotIs_iff.2 ⟨d, hd, ?_⟩
    rcases up.state with e | ⟨hl', -⟩
    · rw [e, hl]
    · rw [hl] at hl'; cases hl'
  · intro e; exact hc (h.copied (hu ▸ e))

/-- The agreements read the Context Table, the directory, the recipes' counts, the Attention Unit, the unit and its
copy. -/
theorem Agrees.of_kept {n : SlotNo → Nat} {m : RecipeNo → Nat} {s t : State} (h : Agrees n m s) (hk : SlotsKept s t)
    (ha : t.attention = s.attention) (hc : ∀ k, (t.cond k).isSome = (s.cond k).isSome) (hd : t.dir = s.dir)
    (hr : t.recipes = s.recipes) (hu : t.unit = s.unit) (hp : s.copy.isSome = true → t.copy.isSome = true) :
    Agrees n m t where
  attention := h.attention.of_isSome ha hc
  records := h.records.of_imp (fun k => by rw [hc]; exact id) fun k _ => hk.raisable
  used := fun k d hd => by
    obtain ⟨c, hc, up⟩ := hk.some_right hd
    rw [up.inFlight]; exact h.used k c hc
  free := fun k hn => h.free k ((hk.none_iff k).2 hn)
  recipes := fun i => by rw [recipe_of_recipes hr]; exact h.recipes i
  retiring := fun k d hd hs => by
    obtain ⟨c, hc, up⟩ := hk.some_right hd
    refine h.retiring k c hc ?_
    rcases up.state with e | ⟨-, e⟩
    · rw [← e, hs]
    · rw [hs] at e; cases e
  formed := by unfold DirectoryFormed; rw [hd]; exact h.formed
  directory := h.directory.of_kept hk hd
  unit := h.unit.of_kept hk hu hp

theorem SlotsKept.refl (s : State) : SlotsKept s s := fun _ => rel_refl .refl _

theorem SlotsKept.of_slots {s t : State} (h : t.slots = s.slots) : SlotsKept s t := fun k => by
  rw [slot_of_slots h]; exact SlotsKept.refl s k

theorem Agrees.raise {n : SlotNo → Nat} {m : RecipeNo → Nat} {s : State} (h : Agrees n m s) (r : Raise) (k : SlotNo) :
    Agrees n m (raiseOn r k s) where
  attention := h.attention.raise r k
  records := by
    intro j hj
    rw [raisable_of_slot (raiseOn_slot r k j s)]
    rw [raiseOn_cond] at hj
    by_cases hk : k = j ∧ raisable s k = true
    · exact hk.1 ▸ hk.2
    · rw [if_neg hk] at hj; exact h.records j hj
  used := fun j c => by rw [raiseOn_slot]; exact h.used j c
  free := fun j => by rw [raiseOn_slot]; exact h.free j
  recipes := fun i => by rw [recipe_of_recipes (raiseOn_recipes r k s)]; exact h.recipes i
  retiring := fun j c => by rw [raiseOn_slot]; exact h.retiring j c
  formed := by unfold DirectoryFormed; rw [raiseOn_dir]; exact h.formed
  directory := h.directory.of_kept (.of_slots (raiseOn_slots r k s)) (raiseOn_dir r k s)
  unit := h.unit.of_kept (.of_slots (raiseOn_slots r k s)) (raiseOn_unit r k s) (by rw [raiseOn_copy]; exact id)

theorem Agrees.ending {n : SlotNo → Nat} {m : RecipeNo → Nat} {s : State} (h : Agrees n m s) (e : Ending) (k : SlotNo) :
    Agrees n m (applyEnding e k s) :=
  h.of_kept (.of_slots rfl) rfl (fun j => applyEnding_isSome e k j s) rfl rfl rfl id

theorem Agrees.delete {n : SlotNo → Nat} {m : RecipeNo → Nat} {s : State} (h : Agrees n m s) (k : SlotNo) :
    Agrees n m (deleteCond k s) where
  attention := h.attention.delete k
  records := h.records.of_imp (fun j => by rw [deleteCond_cond]; split <;> simp) fun _ _ => id
  used := h.used
  free := h.free
  recipes := h.recipes
  retiring := h.retiring
  formed := h.formed
  directory := h.directory.of_kept (.of_slots rfl) rfl
  unit := h.unit.of_kept (.of_slots rfl) rfl id

theorem Agrees.aside {n : SlotNo → Nat} {m : RecipeNo → Nat} {s t : State} (h : Agrees n m s) (a : Aside s t) :
    Agrees n m t := by
  have f := a.frame
  refine h.of_kept (.of_slots ?_) ?_ (fun k => ?_) ?_ ?_ ?_ a.copied
  · rw [f]
  · rw [f]
  · rw [cond_of_conds (s := s) (by rw [f])]
  · rw [f]
  · rw [f]
  · rw [f]

/-! ## Retire -/

theorem Place.state_retirable (p : Place) : p.state.retirable = true := by cases p <;> rfl

theorem CtxState.place_of_retirable {x : CtxState} (h : x.retirable = true) : ∃ p : Place, x = p.state :=
  match x, h with
  | .standby, _ => ⟨.standby, rfl⟩
  | .active, _ => ⟨.active, rfl⟩
  | .draining, _ => ⟨.draining, rfl⟩

/-- Unbinding a slot and taking it out of its states leaves its tag to match (R32). -/
theorem TagMatches.unbind {s u : State} {t : Tag} {k : SlotNo} (h : TagMatches s t)
    (he : u.entry t = (s.entry t).without k) (hs : ∀ j ≠ k, u.slot j = s.slot j)
    (hk : ∀ (c : Context) (p : Place), u.slot k = some c → c.state ≠ p.state) : TagMatches u t := by
  have old : ∀ {j : SlotNo} {p : Place}, (j, p) ∈ (u.entry t).bound → (j, p) ∈ (s.entry t).bound ∧ j ≠ k := by
    intro j p hb; rw [he] at hb; exact DirEntry.mem_bound_without.1 hb
  constructor
  · intro j p hb
    obtain ⟨h1, h2⟩ := old hb
    rw [hs j h2]; exact h.bound j p h1
  · intro j c p hj ht hp
    have hne : j ≠ k := fun e => hk c p (e ▸ hj) hp
    rw [he, DirEntry.mem_bound_without]
    exact ⟨h.listed j c p (hs j hne ▸ hj) ht hp, hne⟩
  · rw [he, DirEntry.bound_without]
    exact (List.length_filter_le _ _).trans h.pair
  · intro j p q hp hq
    exact h.onePlace j p q (old hp).1 (old hq).1
  · intro i j p q hi hj e
    refine h.markers i j p q (old hi).1 (old hj).1 ?_
    simpa [slotMarker, hs i (old hi).2, hs j (old hj).2] using e

end Sys2Proof.Machine
end

section
/-! PROOFS. Unbinding, freeing, retiring and counting, against the agreements. -/

namespace Sys2Proof.Machine
open Sys2Proof

theorem entry_unbind {s : State} (h : DirectoryFormed s) (t x : Tag) (k : SlotNo) :
    (unbind t k s).entry x = if x = t then (s.entry t).without k else s.entry x := entry_setEntry s t x _ h.1

theorem DirectoryFormed.unbind {s : State} (h : DirectoryFormed s) (t : Tag) (k : SlotNo) :
    DirectoryFormed (unbind t k s) := by
  refine h.setEntry ?_
  by_cases ht : t = 0
  · right
    have empty : ∀ e : DirEntry, (∀ b, b ∉ e.bound) → e.without k = DirEntry.empty := by
      rintro ⟨a, b, c⟩ hb
      cases a with
      | some j => exact absurd (DirEntry.mem_bound.2 rfl) (hb (j, .active))
      | none =>
        cases b with
        | some j => exact absurd (DirEntry.mem_bound.2 rfl) (hb (j, .standby))
        | none =>
          cases c with
          | some j => exact absurd (DirEntry.mem_bound.2 rfl) (hb (j, .draining))
          | none => rfl
    exact empty _ fun b hb => h.tag_used hb ht
  · exact .inl ht

/-- Unbinding a slot that leaves the states of the places keeps the directory matched (R17, R32). -/
theorem DirectoryMatches.unbind {s u : State} (h : DirectoryMatches s) (hf : DirectoryFormed s) {t : Tag} {k : SlotNo}
    (hd : u.dir = (unbind t k s).dir) (hs : ∀ j ≠ k, u.slot j = s.slot j)
    (hk : ∀ (c : Context) (p : Place), u.slot k = some c → c.state ≠ p.state)
    (ht : ∀ c, s.slot k = some c ∨ u.slot k = some c → c.tag = t) : DirectoryMatches u := by
  have he : ∀ x, u.entry x = if x = t then (s.entry t).without k else s.entry x := fun x =>
    (entry_of_dir hd x).trans (entry_unbind hf t x k)
  refine h.update t (fun x hx => by rw [he, if_neg hx]) (fun j c hc => ?_)
    ((directoryMatches_iff.1 h t).unbind (by rw [he, if_pos rfl]) hs hk)
  by_cases hj : j = k
  · subst hj
    exact ⟨fun e => absurd (ht c (.inl e)) hc, fun e => absurd (ht c (.inr e)) hc⟩
  · rw [hs j hj]

/-- A slot goes FREE, its last frame, if it had one, being gone (R5, R17, R18, R172). -/
theorem Agrees.freed {n n' : SlotNo → Nat} {m m' : RecipeNo → Nat} {s t : State} (h : Agrees n m s) {k : SlotNo}
    (h0 : n' k = 0) (hn : ∀ j ≠ k, n' j = n j) (hm : ∀ i, (t.recipe i).inFlight = m' i)
    (ht : t = freeSlot k { s with dir := t.dir, recipes := t.recipes, unit := t.unit }) (hf : DirectoryFormed t)
    (hd : DirectoryMatches t) (hu : UnitMatches t) : Agrees n' m' t := by
  have hs : ∀ j, t.slot j = if k = j then none else s.slot j := fun j => by rw [ht]; exact freeSlot_slot k j _
  have hcond : ∀ j, t.cond j = if k = j then none else s.cond j := fun j => by rw [ht]; exact freeSlot_cond k j _
  have slot_of : ∀ {j d}, t.slot j = some d → j ≠ k ∧ s.slot j = some d := by
    intro j d hj
    rw [hs] at hj
    split at hj
    · cases hj
    · rename_i hk; exact ⟨Ne.symm hk, hj⟩
  constructor
  · have ha : AttentionMatches (deleteCond k s) := h.attention.delete k
    refine ha.of_isSome (by rw [ht]; rfl) fun j => ?_
    rw [hcond, deleteCond_cond]
  · intro j hj
    rw [hcond] at hj
    by_cases hk : k = j
    · rw [if_pos hk] at hj; cases hj
    · rw [if_neg hk] at hj
      rw [raisable_of_slot (s := s) (by rw [hs, if_neg hk])]; exact h.records j hj
  · intro j d hj
    rw [hn j (slot_of hj).1]; exact h.used j d (slot_of hj).2
  · intro j hj
    by_cases hk : k = j
    · exact hk ▸ h0
    · rw [hs, if_neg hk] at hj
      rw [hn j (Ne.symm hk)]; exact h.free j hj
  · exact hm
  · intro j d hj
    rw [hn j (slot_of hj).1]; exact h.retiring j d (slot_of hj).2
  · exact hf
  · exact hd
  · exact hu

/-- A slot that is not LOADING goes FREE: the Command Unit still matches. -/
theorem UnitMatches.freed {s t : State} (h : UnitMatches s) {k : SlotNo} {c : Context} (hc : s.slot k = some c)
    (hl : c.state ≠ .loading) (hs : ∀ j, t.slot j = if k = j then none else s.slot j) (hu : t.unit = s.unit)
    (hp : t.copy = s.copy) : UnitMatches t := by
  constructor
  · intro j d hj hd
    rw [hs] at hj
    split at hj
    · cases hj
    · rw [hu]; exact h.loading j d hj hd
  · intro u e
    obtain ⟨d, hd, hs'⟩ := slotIs_iff.1 (h.unwrapping u (hu ▸ e))
    refine slotIs_iff.2 ⟨d, ?_, hs'⟩
    rw [hs, if_neg, hd]
    rintro rfl
    obtain rfl : c = d := Option.some.inj (hc.symm.trans hd)
    exact hl hs'
  · intro e
    rw [hp]
    exact h.copied (hu ▸ e)

/-- A slot unbound and freed, with no frame in flight (R17, R172). -/
theorem Agrees.unbind_free {n : SlotNo → Nat} {m : RecipeNo → Nat} {s : State} (h : Agrees n m s) {k : SlotNo}
    {c : Context} (hc : s.slot k = some c) (hl : c.state ≠ .loading) (h0 : n k = 0) :
    Agrees n m (freeSlot k (unbind c.tag k s)) := by
  have hs : ∀ j, (freeSlot k (unbind c.tag k s)).slot j = if k = j then none else s.slot j :=
    fun j => freeSlot_slot k j _
  refine h.freed h0 (fun _ _ => rfl) h.recipes rfl (h.formed.unbind c.tag k)
    (h.directory.unbind h.formed (t := c.tag) (k := k) rfl ?_ ?_ ?_) (h.unit.freed hc hl hs rfl rfl)
  · intro j hj; rw [hs, if_neg (Ne.symm hj)]
  · intro d p hd; rw [hs, if_pos rfl] at hd; cases hd
  · rintro d (hd | hd)
    · exact Option.some.inj (hc.symm.trans hd) ▸ rfl
    · rw [hs, if_pos rfl] at hd; cases hd

theorem CtxState.retirable_ne {x : CtxState} (h : x.retirable = true) : x ≠ .loading ∧ x ≠ .retiring ∧ x ≠ .quarantined := by
  obtain ⟨p, rfl⟩ := CtxState.place_of_retirable h
  cases p <;> simp [Place.state]

/-- A context that is LOADING stays as it is, and no other becomes LOADING. -/
def Context.BesideLoading (c d : Context) : Prop := d = c ∨ c.state ≠ .loading ∧ d.state ≠ .loading

/-- Changes of slots in use beside the LOADING one, with the directory and the counts changed to match. -/
theorem Agrees.of_slots {n n' : SlotNo → Nat} {m m' : RecipeNo → Nat} {s t : State} (h : Agrees n m s)
    (hk : ∀ k, Option.Rel Context.BesideLoading (s.slot k) (t.slot k))
    (ht : t = { s with slots := t.slots, dir := t.dir, recipes := t.recipes })
    (used : ∀ (k : SlotNo) (d : Context), t.slot k = some d → d.inFlight = n' k ∧ (d.state = .retiring → 0 < n' k))
    (free : ∀ k : SlotNo, s.slot k = none → n' k = 0) (recipes : ∀ i : RecipeNo, (t.recipe i).inFlight = m' i)
    (hf : DirectoryFormed t) (hd : DirectoryMatches t) : Agrees n' m' t := by
  have hcond : ∀ k, t.cond k = s.cond k := fun k => by rw [ht]; rfl
  have hu : t.unit = s.unit := by rw [ht]
  constructor
  · exact h.attention.of_isSome (by rw [ht]) fun k => by rw [hcond]
  · refine h.records.of_imp (fun k => by rw [hcond]; exact id) fun k _ hr => ?_
    obtain ⟨c, hc, hl⟩ := raisable_iff.1 hr
    obtain ⟨d, hd, r⟩ := rel_left (hk k) hc
    exact raisable_iff.2 ⟨d, hd, r.elim (fun e => e ▸ hl) And.right⟩
  · exact fun k d hd => (used k d hd).1
  · intro k hn
    refine free k ?_
    cases hc : s.slot k with
    | none => rfl
    | some c => obtain ⟨d, hd, -⟩ := rel_left (hk k) hc; rw [hd] at hn; cases hn
  · exact recipes
  · exact fun k d hd => (used k d hd).2
  · exact hf
  · exact hd
  · constructor
    · intro k d hd e
      obtain ⟨c, hc, r⟩ := rel_right (hk k) hd
      obtain rfl : d = c := r.resolve_right fun hn => hn.2 e
      rw [hu]; exact h.unit.loading k d hc e
    · intro u e
      obtain ⟨c, hc, hl⟩ := slotIs_iff.1 (h.unit.unwrapping u (hu ▸ e))
      obtain ⟨d, hd, r⟩ := rel_left (hk u.slot) hc
      obtain rfl : d = c := r.resolve_right fun hn => hn.1 hl
      exact slotIs_iff.2 ⟨d, hd, hl⟩
    · intro e
      rw [show t.copy = s.copy by rw [ht]]; exact h.unit.copied (hu ▸ e)

/-- A change of state of a slot in use beside LOADING: its frames in flight stay. -/
structure Context.Turned (c d : Context) : Prop where
  inFlight : d.inFlight = c.inFlight
  loading : c.BesideLoading d
  retiring : d.state = .retiring → c.state = .retiring ∨ 0 < c.inFlight

theorem Context.Turned.refl (c : Context) : c.Turned c := ⟨rfl, .inl rfl, .inl⟩

/-- Changes of state of slots in use, with the directory changed to match, keep the agreements. -/
theorem Agrees.turned {n : SlotNo → Nat} {m : RecipeNo → Nat} {s t : State} (h : Agrees n m s)
    (hk : ∀ k, Option.Rel Context.Turned (s.slot k) (t.slot k)) (ht : t = { s with slots := t.slots, dir := t.dir })
    (hf : DirectoryFormed t) (hd : DirectoryMatches t) : Agrees n m t := by
  refine h.of_slots (fun k => rel_mono (fun _ _ r => r.loading) (hk k)) (by rw [ht]) (fun k d hd => ?_) h.free
    (fun i => ?_) hf hd
  · obtain ⟨c, hc, r⟩ := rel_right (hk k) hd
    have hn := h.used k c hc
    refine ⟨r.inFlight.trans hn, fun e => ?_⟩
    rcases r.retiring e with e | e
    · exact h.retiring k c hc e
    · exact hn ▸ e
  · rw [recipe_of_recipes (s := s) (by rw [ht])]; exact h.recipes i

/-- A context with another number of frames in flight. -/
def Context.withFrames (c : Context) (n : Nat) : Context := { c with inFlight := n }

/-- A slot not LOADING takes another number of frames in flight (R16, R66). -/
theorem Agrees.recount {n n' : SlotNo → Nat} {m m' : RecipeNo → Nat} {s t : State} (h : Agrees n m s) {k : SlotNo}
    {c : Context} (hc : s.slot k = some c) (hl : c.state ≠ .loading) (hr : c.state = .retiring → 0 < n' k)
    (hn : ∀ j ≠ k, n' j = n j) (hm : ∀ i, (t.recipe i).inFlight = m' i)
    (ht : t = { s.setSlot k (some (c.withFrames (n' k))) with recipes := t.recipes }) : Agrees n' m' t := by
  have hs : ∀ j, t.slot j = if k = j then some (c.withFrames (n' k)) else s.slot j := fun j => by
    rw [ht]; exact slot_setSlot s k j _
  have each : ∀ {R : Context → Context → Prop}, (∀ a, R a a) → R c (c.withFrames (n' k)) →
      ∀ j, Option.Rel R (s.slot j) (t.slot j) := by
    intro R refl one j
    rw [hs]
    split
    · rename_i e; rw [← e, hc]; exact .some one
    · exact rel_refl refl _
  refine h.of_slots (each (fun _ => .inl rfl) (.inr ⟨hl, hl⟩)) (by rw [ht]; rfl) (fun j d hd => ?_) (fun j hj => ?_) hm
    (by rw [ht]; exact h.formed) (h.directory.of_stays (each .refl ⟨rfl, rfl, .inl rfl⟩) (by rw [ht]; rfl))
  · rw [hs] at hd
    split at hd
    · rename_i e; cases hd; exact ⟨by rw [← e]; rfl, fun g => e ▸ hr g⟩
    · rename_i e; rw [hn j (Ne.symm e)]; exact ⟨h.used j d hd, h.retiring j d hd⟩
  · by_cases e : j = k
    · rw [e, hc] at hj; cases hj
    · rw [hn j e]; exact h.free j hj

/-- The record of a slot retired with frames in flight (R17). -/
def retiringContext (c : Context) : Context := { c with state := .retiring, timerRuns := false }

theorem retireSlot_idle {s : State} {k : SlotNo} {c : Context} (hc : s.slot k = some c) (h0 : c.inFlight = 0) :
    retireSlot k s = freeSlot k (unbind c.tag k s) := by simp [retireSlot, hc, h0]

theorem retireSlot_busy {s : State} {k : SlotNo} {c : Context} (hc : s.slot k = some c) (h0 : c.inFlight ≠ 0) :
    retireSlot k s = (unbind c.tag k s).setSlot k (some (retiringContext c)) := by
  simp only [retireSlot, hc, h0, if_false]
  rw [updateSlot_of_some (c := c) (by rw [← hc]; rfl)]; rfl

/-- Retire of a STANDBY, ACTIVE or DRAINING slot keeps the agreements (R17). -/
theorem Agrees.retire {n : SlotNo → Nat} {m : RecipeNo → Nat} {s : State} (h : Agrees n m s) {k : SlotNo} {c : Context}
    (hc : s.slot k = some c) (hr : c.state.retirable = true) : Agrees n m (retireSlot k s) := by
  obtain ⟨hl, -, -⟩ := CtxState.retirable_ne hr
  by_cases h0 : c.inFlight = 0
  · rw [retireSlot_idle hc h0]
    exact h.unbind_free hc hl (h.used k c hc ▸ h0)
  rw [retireSlot_busy hc h0]
  have hs := slot_setSlot (unbind c.tag k s) k (c := some (retiringContext c))
  refine h.turned (fun j => ?_) rfl (h.formed.unbind c.tag k)
    (h.directory.unbind h.formed (t := c.tag) (k := k) rfl (fun j hj => ?_) ?_ ?_)
  · rw [hs]
    split
    · rename_i hj; rw [← hj, hc]
      exact .some ⟨rfl, .inr ⟨hl, CtxState.noConfusion⟩, fun _ => .inr (Nat.pos_of_ne_zero h0)⟩
    · exact rel_refl .refl (s.slot j)
  · rw [hs, if_neg (Ne.symm hj)]; rfl
  · intro d p hd
    rw [hs, if_pos rfl] at hd
    cases hd
    cases p <;> simp [retiringContext, Place.state]
  · rintro d (hd | hd)
    · exact Option.some.inj (hc.symm.trans hd) ▸ rfl
    · rw [hs, if_pos rfl] at hd; cases hd; rfl

end Sys2Proof.Machine
end

section
/-! PROOFS. Updates of a record, and runs of changes. -/

namespace Sys2Proof.Machine
open Sys2Proof

/-! ## Updates of a record -/

/-- Counters, flags that only rise, the watermark that only rises, and check values may change. -/
theorem Context.Upkeep.light (c : Context) {low spent : Bool} {w : SeqNo} (fails : Byte) (progress left : BitVec 16)
    (np na nr : BitVec 32) (checks : Checks) (hl : c.lowReported = true → low = true)
    (hs : c.spent = true → spent = true) (hw : c.watermark ≤ w) :
    c.Upkeep { c with
      lowReported := low, spent := spent, watermark := w, verifyFailures := fails, drainProgress := progress
      timerLeft := left, framesProtected := np, framesAdmitted := na, framesRefused := nr, checks := checks } where
  tag := rfl
  generation := rfl
  inFlight := rfl
  state := .inl rfl
  key := fun _ => rfl
  sound := fun h => ⟨h.tagUsed, h.recipesUsed, h.ceilingLow, h.ceilingHigh, h.nextLow, h.nextHigh, h.lifeUsed, h.lifeHigh,
    h.markHigh, h.keyHeld, h.timerDraining⟩
  continues := fun _ => ⟨rfl, rfl, rfl, rfl, rfl, rfl, hw, BitVec.le_refl _, BitVec.le_refl _, hs, hl⟩

/-- A record of which counters alone change, and check values (R15, R22). -/
theorem Context.Upkeep.counters (c : Context) (fails : Byte) (progress left : BitVec 16) (np na nr : BitVec 32)
    (checks : Checks) :
    c.Upkeep { c with
      verifyFailures := fails, drainProgress := progress, timerLeft := left, framesProtected := np
      framesAdmitted := na, framesRefused := nr, checks := checks } :=
  .light c fails progress left np na nr checks id id (BitVec.le_refl _)

theorem Context.Upkeep.spent (c : Context) : c.Upkeep { c with spent := true } :=
  .light c _ _ _ _ _ _ _ id (fun _ => rfl) (BitVec.le_refl _)

theorem Context.Upkeep.lowReported (c : Context) : c.Upkeep { c with lowReported := true } :=
  .light c _ _ _ _ _ _ _ (fun _ => rfl) id (BitVec.le_refl _)

theorem Context.Upkeep.admitted {c : Context} {seq : SeqNo} (h : c.watermark ≤ seq) : c.Upkeep (countAdmitted seq c) :=
  .light c _ _ _ _ _ _ _ id id h

/-- A context that is not found spent is charged (R8, R10, R11). -/
theorem Context.Upkeep.charged {c : Context} {bytes : Nat} (h : foundSpent c bytes = false) :
    c.Upkeep (chargeContext bytes c) := by
  simp only [foundSpent, Bool.or_eq_false_iff, decide_eq_false_iff_not, BitVec.lt_def, not_lt] at h
  obtain ⟨⟨-, hc⟩, hb⟩ := h
  have hn : ∀ g : c.Sound, (c.nextSeq + 1).toNat = c.nextSeq.toNat + 1 := by
    intro g
    have := g.ceilingHigh
    rw [BitVec.toNat_add]
    exact Nat.mod_eq_of_lt (by show c.nextSeq.toNat + 1 < 2 ^ 48; omega)
  have hl : (c.lifeLeft - BitVec.ofNat 40 bytes).toNat = c.lifeLeft.toNat - bytes := by
    have hm : (BitVec.ofNat 40 bytes).toNat = bytes := by
      have := c.lifeLeft.isLt
      rw [BitVec.toNat_ofNat]; exact Nat.mod_eq_of_lt (by omega)
    rw [BitVec.toNat_sub_of_le (by rw [BitVec.le_def, hm]; exact hb), hm]
  refine ⟨rfl, rfl, rfl, .inl rfl, fun _ => rfl, fun g => ?_, fun g => ?_⟩
  · refine ⟨g.tagUsed, g.recipesUsed, g.ceilingLow, g.ceilingHigh, ?_, ?_, g.lifeUsed, ?_, g.markHigh, g.keyHeld,
      g.timerDraining⟩
    · show 1 ≤ (c.nextSeq + 1).toNat
      rw [hn g]; omega
    · show (c.nextSeq + 1).toNat ≤ c.settings.ceiling.toNat + 1
      rw [hn g]; omega
    · show c.lifeLeft - BitVec.ofNat 40 bytes ≤ c.lifeInstalled
      have := g.lifeHigh
      rw [BitVec.le_def] at this ⊢
      omega
  · refine ⟨rfl, rfl, rfl, rfl, rfl, rfl, BitVec.le_refl _, ?_, ?_, id, id⟩
    · show c.nextSeq ≤ c.nextSeq + 1
      rw [BitVec.le_def, hn g]; omega
    · show c.lifeLeft - BitVec.ofNat 40 bytes ≤ c.lifeLeft
      rw [BitVec.le_def, hl]; omega

/-- Settings in their ranges may take the place of the others (R7, R171). -/
theorem Context.Upkeep.settings (c : Context) (x : Settings)
    (h : c.Sound → x.recipes ≠ 0 ∧ 1 ≤ x.ceiling.toNat ∧ x.ceiling.toNat ≤ 2 ^ 48 - 2 ∧
      c.nextSeq.toNat ≤ x.ceiling.toNat + 1 ∧ x.lowMark ≤ c.lifeInstalled) : c.Upkeep { c with settings := x } where
  tag := rfl
  generation := rfl
  inFlight := rfl
  state := .inl rfl
  key := fun _ => rfl
  sound := fun g => by
    obtain ⟨h1, h2, h3, h4, h5⟩ := h g
    exact ⟨g.tagUsed, h1, h2, h3, g.nextLow, h4, g.lifeUsed, g.lifeHigh, h5, g.keyHeld, g.timerDraining⟩
  continues := fun _ => ⟨rfl, rfl, rfl, rfl, rfl, rfl, BitVec.le_refl _, BitVec.le_refl _, BitVec.le_refl _, id, id⟩

/-- A live context is quarantined (R23). -/
theorem Context.Upkeep.quarantined {c : Context} (h : c.state.live = true) : c.Upkeep (quarantinedContext c) where
  tag := rfl
  generation := rfl
  inFlight := rfl
  state := .inr ⟨h, rfl⟩
  key := fun e => CtxState.noConfusion e
  sound := fun g => ⟨g.tagUsed, g.recipesUsed, g.ceilingLow, g.ceilingHigh, g.nextLow, g.nextHigh, g.lifeUsed, g.lifeHigh,
    g.markHigh, rfl, fun e => Bool.noConfusion e⟩
  continues := fun _ => ⟨rfl, rfl, rfl, rfl, rfl, rfl, BitVec.le_refl _, BitVec.le_refl _, BitVec.le_refl _, id, id⟩

theorem Context.Upkeep.countDown (c : Context) : c.Upkeep (countDown c) := by
  unfold Machine.countDown
  split
  · exact .counters c _ _ _ _ _ _ _
  · exact .refl c

/-! ## Runs of changes -/

/-- One change of those that a step is made of, beside binding, roll-over and the in-flight counts. -/
inductive Quiet : State → State → Prop
  | slots {s t : State} (frame : t = { s with slots := t.slots }) (kept : SlotsKept s t) : Quiet s t
  | raise (r : Raise) (k : SlotNo) (s : State) : Quiet s (raiseOn r k s)
  | ending (e : Ending) (k : SlotNo) (s : State) : Quiet s (applyEnding e k s)
  | delete (k : SlotNo) (s : State) : Quiet s (deleteCond k s)
  | retire {k : SlotNo} {s : State} {c : Context} (hc : s.slot k = some c) (hr : c.state.retirable = true) :
    Quiet s (retireSlot k s)
  | aside {s t : State} (h : Aside s t) : Quiet s t

/-- A run of such changes. -/
inductive Run : State → State → Prop
  | refl {s : State} : Run s s
  | tail {s t u : State} (r : Run s t) (q : Quiet t u) : Run s u

theorem Quiet.run {s t : State} (h : Quiet s t) : Run s t := .tail .refl h

theorem Run.trans {s t u : State} (r : Run s t) (g : Run t u) : Run s u := by
  induction g with
  | refl => exact r
  | tail _ q ih => exact .tail ih q

theorem Quiet.agrees {n : SlotNo → Nat} {m : RecipeNo → Nat} {s t : State} (q : Quiet s t) (h : Agrees n m s) :
    Agrees n m t := by
  cases q with
  | slots frame kept =>
    refine h.of_kept kept ?_ (fun k => ?_) ?_ ?_ ?_ ?_
    · rw [frame]
    · rw [cond_of_conds (s := s) (by rw [frame])]
    · rw [frame]
    · rw [frame]
    · rw [frame]
    · rw [frame]; exact id
  | raise r k => exact h.raise r k
  | ending e k => exact h.ending e k
  | delete k => exact h.delete k
  | retire hc hr => exact h.retire hc hr
  | aside a => exact h.aside a

theorem Run.agrees {n : SlotNo → Nat} {m : RecipeNo → Nat} {s t : State} (r : Run s t) (h : Agrees n m s) :
    Agrees n m t := by
  induction r with
  | refl => exact h
  | tail _ q ih => exact q.agrees ih

/-- The blocks and lines that a run of changes leaves alone. -/
structure Apart (s t : State) : Prop where
  recipes : t.recipes = s.recipes
  unit : t.unit = s.unit
  copied : s.copy.isSome = true → t.copy.isSome = true
  anchors : t.anchors = s.anchors
  locks : t.locks = s.locks
  power : t.power = s.power
  port : t.port = s.port
  queue : SameNames s.queue t.queue

theorem SameNames.trans {p q r : List Entry} (h : SameNames p q) (g : SameNames q r) : SameNames p r := by
  induction h generalizing r with
  | nil => exact g
  | cons h _ ih =>
    cases g with
    | cons g gs => exact .cons ⟨fun k => (g.1 k).trans (h.1 k), fun i => (g.2 i).trans (h.2 i)⟩ (ih gs)

theorem Apart.refl (s : State) : Apart s s := ⟨rfl, rfl, id, rfl, rfl, rfl, rfl, .refl _⟩

theorem Apart.trans {s t u : State} (h : Apart s t) (g : Apart t u) : Apart s u :=
  ⟨g.recipes.trans h.recipes, g.unit.trans h.unit, g.copied ∘ h.copied, g.anchors.trans h.anchors, g.locks.trans h.locks,
    g.power.trans h.power, g.port.trans h.port, h.queue.trans g.queue⟩

/-- A change of slots, directory and conditions alone is apart from the rest. -/
theorem Apart.of_frame {s t : State} (h : t = { s with
    slots := t.slots, dir := t.dir, conds := t.conds, attention := t.attention }) : Apart s t := by
  rw [h]; exact ⟨rfl, rfl, id, rfl, rfl, rfl, rfl, .refl _⟩

theorem Aside.apart {s t : State} (a : Aside s t) : Apart s t := by
  have f := a.frame
  refine ⟨?_, ?_, a.copied, ?_, ?_, ?_, ?_, a.queue⟩ <;> rw [f]

theorem Quiet.apart {s t : State} (q : Quiet s t) : Apart s t := by
  cases q with
  | slots frame _ => exact .of_frame (by rw [frame])
  | raise r k => exact .of_frame (by rw [raiseOn_frame])
  | ending e k => exact .of_frame rfl
  | delete k => exact .of_frame rfl
  | retire => exact .of_frame (by rw [retireSlot_frame])
  | aside a => exact a.apart

theorem Run.apart {s t : State} (r : Run s t) : Apart s t := by
  induction r with
  | refl => exact .refl _
  | tail _ q ih => exact ih.trans q.apart

end Sys2Proof.Machine
end

section
/-! PROOFS. Contexts and Condition Records along a run of changes; the pair of a roll-over. -/

namespace Sys2Proof.Machine
open Sys2Proof

/-! ## Contexts and Condition Records along a run -/

/-- The changes of state that a run of changes makes: none, a retire, a quarantine (Table 1-3). -/
def CtxState.mayFall (a b : CtxState) : Prop :=
  b = a ∨ a.retirable = true ∧ b = .retiring ∨ a.live = true ∧ b = .quarantined

theorem CtxState.live_of_retirable {a : CtxState} (h : a.retirable = true) : a.live = true := by
  revert h
  cases a <;> decide

theorem CtxState.mayFall.trans {a b c : CtxState} (h : a.mayFall b) (g : b.mayFall c) : a.mayFall c := by
  rcases h with rfl | ⟨h, rfl⟩ | ⟨h, rfl⟩
  · exact g
  · rcases g with rfl | ⟨g, -⟩ | ⟨-, rfl⟩
    · exact .inr (.inl ⟨h, rfl⟩)
    · cases g
    · exact .inr (.inr ⟨live_of_retirable h, rfl⟩)
  · rcases g with rfl | ⟨g, -⟩ | ⟨g, -⟩
    · exact .inr (.inr ⟨h, rfl⟩)
    · cases g
    · cases g

/-- Each context of the later state was there before, and continues in a state it may fall to. -/
def Follows (s t : State) : Prop := ∀ (k : SlotNo) (d : Context), t.slot k = some d →
  ∃ c, s.slot k = some c ∧ c.Continues d ∧ c.state.mayFall d.state

theorem Follows.refl (s : State) : Follows s s := fun _ d hd => ⟨d, hd, .refl d, .inl rfl⟩

theorem Follows.trans {s t u : State} (h : Follows s t) (g : Follows t u) : Follows s u := by
  intro k d hd
  obtain ⟨c, hc, h1, h2⟩ := g k d hd
  obtain ⟨b, hb, g1, g2⟩ := h k c hc
  exact ⟨b, hb, g1.trans h1, g2.trans h2⟩

theorem Follows.of_slots {s t : State} (h : t.slots = s.slots) : Follows s t := fun k d hd =>
  ⟨d, by rw [← slot_of_slots h]; exact hd, .refl d, .inl rfl⟩

theorem ContextsSound.of_slots {s t : State} (h : ContextsSound s) (e : t.slots = s.slots) : ContextsSound t :=
  fun k d hd => h k d (by rw [← slot_of_slots e]; exact hd)

theorem SlotsKept.contexts {s t : State} (h : SlotsKept s t) (hs : ContextsSound s) : ContextsSound t ∧ Follows s t := by
  constructor
  · intro k d hd
    obtain ⟨c, hc, u⟩ := h.some_right hd
    exact u.sound (hs k c hc)
  · intro k d hd
    obtain ⟨c, hc, u⟩ := h.some_right hd
    exact ⟨c, hc, u.continues (hs k c hc), u.state.elim .inl fun e => .inr (.inr e)⟩

theorem Context.Sound.retiring {c : Context} (h : c.Sound) (hr : c.state.retirable = true) : (retiringContext c).Sound :=
  ⟨h.tagUsed, h.recipesUsed, h.ceilingLow, h.ceilingHigh, h.nextLow, h.nextHigh, h.lifeUsed, h.lifeHigh, h.markHigh,
    h.keyHeld.trans (CtxState.live_of_retirable hr), fun e => Bool.noConfusion e⟩

/-- A change of state, or of the drain's progress and timer, leaves what lasts. -/
theorem Context.Continues.turn (c : Context) (x : CtxState) (progress left : BitVec 16) (runs : Bool) :
    c.Continues { c with state := x, drainProgress := progress, timerLeft := left, timerRuns := runs } :=
  ⟨rfl, rfl, rfl, rfl, rfl, rfl, BitVec.le_refl _, BitVec.le_refl _, BitVec.le_refl _, id, id⟩

theorem retireSlot_slot {s : State} {k : SlotNo} {c : Context} (hc : s.slot k = some c) (j : SlotNo) :
    (retireSlot k s).slot j =
      if k = j then (if c.inFlight = 0 then none else some (retiringContext c)) else s.slot j := by
  by_cases h0 : c.inFlight = 0
  · rw [retireSlot_idle hc h0, freeSlot_slot, if_pos h0]; rfl
  · rw [retireSlot_busy hc h0, slot_setSlot, if_neg h0]; rfl

theorem Quiet.contexts {s t : State} (q : Quiet s t) (h : ContextsSound s) : ContextsSound t ∧ Follows s t := by
  cases q with
  | slots _ kept => exact kept.contexts h
  | raise r k => exact ⟨h.of_slots (raiseOn_slots r k s), .of_slots (raiseOn_slots r k s)⟩
  | ending e k => exact ⟨h.of_slots rfl, .of_slots rfl⟩
  | delete k => exact ⟨h.of_slots rfl, .of_slots rfl⟩
  | aside a => exact ⟨h.of_slots (by rw [a.frame]), .of_slots (by rw [a.frame])⟩
  | @retire k _ c hc hr =>
    have each : ∀ j d, (retireSlot k s).slot j = some d →
        s.slot j = some d ∨ k = j ∧ d = retiringContext c := by
      intro j d hd
      rw [retireSlot_slot hc] at hd
      split at hd
      · rename_i hj
        split at hd
        · cases hd
        · exact .inr ⟨hj, (Option.some.inj hd).symm⟩
      · exact .inl hd
    constructor
    · intro j d hd
      rcases each j d hd with hd | ⟨rfl, rfl⟩
      · exact h j d hd
      · exact (h k c hc).retiring hr
    · intro j d hd
      rcases each j d hd with hd | ⟨rfl, rfl⟩
      · exact ⟨d, hd, .refl d, .inl rfl⟩
      · exact ⟨c, hc, .turn c _ _ _ _, .inr (.inl ⟨hr, rfl⟩)⟩

theorem Run.contexts {s t : State} (r : Run s t) (h : ContextsSound s) : ContextsSound t ∧ Follows s t := by
  induction r with
  | refl => exact ⟨h, .refl _⟩
  | tail _ q ih =>
    obtain ⟨h1, h2⟩ := ih
    obtain ⟨g1, g2⟩ := q.contexts h1
    exact ⟨g1, h2.trans g2⟩

/-- A Condition Record's count and class set are in their ranges (R136, R139). -/
def CondRecord.Fits (r : CondRecord) : Prop :=
  r.overlap ≤ 15 ∧ r.classes &&& condClassBit r.primary = condClassBit r.primary

theorem newRecord_fits (r : Raise) : (newRecord r).Fits := ⟨Nat.zero_le _, BitVec.and_self⟩

theorem mergeRaise_fits {c : CondRecord} (h : c.Fits) (r : Raise) : (mergeRaise c r).Fits := by
  refine ⟨Nat.min_le_left _ _, ?_⟩
  have hc := h.2
  show (c.classes ||| condClassBit r.cls) &&& condClassBit c.primary = condClassBit c.primary
  generalize condClassBit c.primary = b at hc ⊢
  ext i hi
  have := congrArg (fun x : BitVec 8 => x[i]) hc
  simp at this ⊢
  tauto

theorem RecordsSound.of_cond {s t : State} (h : RecordsSound s)
    (g : ∀ k r, t.cond k = some r → s.cond k = some r ∨ r.Fits) : RecordsSound t := fun k r hr =>
  (g k r hr).elim (h k r) id

theorem RecordsSound.of_conds {s t : State} (h : RecordsSound s) (e : t.conds = s.conds) : RecordsSound t :=
  h.of_cond fun k r hr => .inl (by rw [← cond_of_conds e]; exact hr)

theorem RecordsSound.raise {s : State} (h : RecordsSound s) (r : Raise) (k : SlotNo) : RecordsSound (raiseOn r k s) := by
  refine h.of_cond fun j x hx => ?_
  rw [raiseOn_cond] at hx
  split at hx
  · refine .inr ?_
    cases hc : s.cond k with
    | none => rw [hc] at hx; cases hx; exact newRecord_fits r
    | some c => rw [hc] at hx; cases hx; exact mergeRaise_fits (h k c hc) r
  · exact .inl hx

theorem RecordsSound.ending {s : State} (h : RecordsSound s) (e : Ending) (k : SlotNo) :
    RecordsSound (applyEnding e k s) := by
  refine h.of_cond fun j x hx => ?_
  rw [applyEnding_cond] at hx
  split at hx
  · refine .inr ?_
    obtain ⟨c, hc, rfl⟩ := Option.map_eq_some_iff.1 hx
    exact h k c hc
  · exact .inl hx

theorem RecordsSound.delete {s : State} (h : RecordsSound s) (k : SlotNo) : RecordsSound (deleteCond k s) := by
  refine h.of_cond fun j x hx => ?_
  rw [deleteCond_cond] at hx
  split at hx
  · cases hx
  · exact .inl hx

theorem RecordsSound.free {s : State} (h : RecordsSound s) (k : SlotNo) : RecordsSound (freeSlot k s) :=
  (h.delete k).of_conds rfl

theorem Quiet.records {s t : State} (q : Quiet s t) (h : RecordsSound s) : RecordsSound t := by
  cases q with
  | slots frame _ => exact h.of_conds (by rw [frame])
  | raise r k => exact h.raise r k
  | ending e k => exact h.ending e k
  | delete k => exact h.delete k
  | @retire k _ c hc _ =>
    by_cases h0 : c.inFlight = 0
    · rw [retireSlot_idle hc h0]; exact RecordsSound.free (s := unbind c.tag k s) (h.of_conds rfl) k
    · rw [retireSlot_busy hc h0]; exact h.of_conds rfl
  | aside a => exact h.of_conds (by rw [a.frame])

theorem Run.records {s t : State} (r : Run s t) (h : RecordsSound s) : RecordsSound t := by
  induction r with
  | refl => exact h
  | tail _ q ih => exact q.records ih

/-! ## Roll-over -/

/-- The pair of a tag whose place STANDBY is taken: the slot alone, or with a partner in one of the other places
(R28, R37). -/
theorem TagMatches.standby_pair {s : State} {t : Tag} {k : SlotNo} (h : TagMatches s t)
    (hk : (s.entry t).standby = some k) :
    s.entry t = ⟨none, some k, none⟩ ∨
      ∃ p ≠ k, s.entry t = ⟨some p, some k, none⟩ ∨ s.entry t = ⟨none, some k, some p⟩ := by
  have hb : (k, Place.standby) ∈ (s.entry t).bound := DirEntry.mem_bound.2 hk
  have other : ∀ {p : SlotNo} {x : Place}, x ≠ .standby → (s.entry t).slotIn x = some p → p ≠ k := by
    rintro p x hx hp rfl
    exact hx (h.onePlace p x .standby (DirEntry.mem_bound.2 hp) hb)
  have hp := h.pair
  have ha : ∀ {p}, (s.entry t).active = some p → p ≠ k := fun hp => other (x := .active) (by decide) hp
  have hd : ∀ {p}, (s.entry t).draining = some p → p ≠ k := fun hp => other (x := .draining) (by decide) hp
  generalize s.entry t = e at hk hp ha hd
  obtain ⟨a, b, d⟩ := e
  simp only at hk ha hd
  subst hk
  cases a with
  | none =>
    cases d with
    | none => exact .inl rfl
    | some p => exact .inr ⟨p, hd rfl, .inr rfl⟩
  | some q =>
    cases d with
    | none => exact .inr ⟨q, ha rfl, .inl rfl⟩
    | some p => simp [DirEntry.bound] at hp

/-- The roll-over of a STANDBY alone under its tag (R37). -/
theorem swapRoles_alone {s : State} {t : Tag} {k : SlotNo} (he : s.entry t = ⟨none, some k, none⟩) :
    swapRoles t k s = (s.updateSlot k promote).setEntry t ⟨some k, none, none⟩ := by
  simp [swapRoles, partnerOf, he, DirEntry.bound, updateSome, DirEntry.rolled, Option.filter]

theorem partnerOf_pair {s : State} {t : Tag} {k p : SlotNo} (hp : p ≠ k)
    (he : s.entry t = ⟨some p, some k, none⟩ ∨ s.entry t = ⟨none, some k, some p⟩) : partnerOf s t k = some p := by
  rcases he with he | he <;> simp [partnerOf, he, DirEntry.bound, hp]

/-- The roll-over of a STANDBY with a partner (R37). -/
theorem swapRoles_pair {s : State} {t : Tag} {k p : SlotNo} (hp : p ≠ k)
    (he : s.entry t = ⟨some p, some k, none⟩ ∨ s.entry t = ⟨none, some k, some p⟩) :
    swapRoles t k s = ((s.updateSlot p demote).updateSlot k promote).setEntry t ⟨some k, none, some p⟩ := by
  unfold swapRoles
  rw [partnerOf_pair hp he]
  rcases he with he | he <;> simp [he, updateSome, DirEntry.rolled, Option.filter, hp]

/-- A roll-over of a slot in state STANDBY (R37). -/
def Roll (s t : State) : Prop := ∃ k c, s.slot k = some c ∧ c.state = .standby ∧ t = swapRoles c.tag k s

theorem swapRoles_alone_slot {s : State} {t : Tag} {k : SlotNo} {c : Context}
    (he : s.entry t = ⟨none, some k, none⟩) (hc : s.slot k = some c) (j : SlotNo) :
    (swapRoles t k s).slot j = if k = j then some (promote c) else s.slot j := by
  rw [swapRoles_alone he, slot_setEntry, slot_updateSlot, hc]; rfl

theorem swapRoles_pair_slot {s : State} {t : Tag} {k p : SlotNo} {c d : Context} (hp : p ≠ k)
    (he : s.entry t = ⟨some p, some k, none⟩ ∨ s.entry t = ⟨none, some k, some p⟩)
    (hc : s.slot k = some c) (hd : s.slot p = some d) (j : SlotNo) :
    (swapRoles t k s).slot j =
      if k = j then some (promote c) else if p = j then some (demote d) else s.slot j := by
  rw [swapRoles_pair hp he, slot_setEntry, slot_updateSlot, slot_updateSlot, slot_updateSlot, if_neg hp, hc, hd]; rfl

theorem demote_tag (d : Context) : (demote d).tag = d.tag := by unfold demote; split <;> rfl
theorem demote_generation (d : Context) : (demote d).generation = d.generation := by unfold demote; split <;> rfl
theorem demote_inFlight (d : Context) : (demote d).inFlight = d.inFlight := by unfold demote; split <;> rfl
theorem demote_state (d : Context) : (demote d).state = if d.state = .active then .draining else d.state := by
  unfold demote; split <;> rfl

/-- Rolled over, the tag matches: the slot holds place ACTIVE, its partner place DRAINING (Table 2-3). -/
theorem TagMatches.roll {s u : State} {t : Tag} {k p : SlotNo} {c d : Context} (h : TagMatches s t) (hp : p ≠ k)
    (he : s.entry t = ⟨some p, some k, none⟩ ∨ s.entry t = ⟨none, some k, some p⟩)
    (hc : s.slot k = some c) (hd : s.slot p = some d)
    (hu : u.entry t = ⟨some k, none, some p⟩)
    (hs : ∀ j, u.slot j = if k = j then some (promote c) else if p = j then some (demote d) else s.slot j) :
    TagMatches u t := by
  have hk : u.slot k = some (promote c) := by rw [hs, if_pos rfl]
  have hq : u.slot p = some (demote d) := by rw [hs, if_neg hp.symm, if_pos rfl]
  have old_k : (k, Place.standby) ∈ (s.entry t).bound := by rcases he with he | he <;> simp [he, DirEntry.bound]
  have old_p : ∃ x : Place, x ≠ .standby ∧ (p, x) ∈ (s.entry t).bound := by
    rcases he with he | he
    · exact ⟨.active, by decide, by simp [he, DirEntry.bound]⟩
    · exact ⟨.draining, by decide, by simp [he, DirEntry.bound]⟩
  obtain ⟨x, hx, hpx⟩ := old_p
  have tag_k : c.tag = t := by obtain ⟨b, hb, ht, -⟩ := h.bound k _ old_k; cases hc.symm.trans hb; exact ht
  obtain ⟨tag_p, state_p⟩ : d.tag = t ∧ (d.state = x.state ∨ d.state = .quarantined) := by
    obtain ⟨b, hb, h1, h2⟩ := h.bound p x hpx; cases hd.symm.trans hb; exact ⟨h1, h2⟩
  have state_demote : (demote d).state = .draining ∨ (demote d).state = .quarantined := by
    rw [demote_state]
    rcases state_p with e | e <;> rw [e]
    · cases x <;> simp [Place.state] at hx ⊢
    · simp
  have mem : ∀ {j : SlotNo} {y : Place}, (j, y) ∈ (u.entry t).bound ↔ j = k ∧ y = .active ∨ j = p ∧ y = .draining := by
    intro j y; rw [hu]; simp [DirEntry.bound]
  have marker_k : slotMarker u k = slotMarker s k := by simp [slotMarker, hk, hc, promote, Context.marker]
  have marker_p : slotMarker u p = slotMarker s p := by
    simp [slotMarker, hq, hd, Context.marker, demote_generation]
  have apart : slotMarker s k ≠ slotMarker s p := fun e => hp (h.markers k p _ _ old_k hpx e).symm
  constructor
  · intro j y hj
    rcases mem.1 hj with ⟨rfl, rfl⟩ | ⟨rfl, rfl⟩
    · exact ⟨_, hk, tag_k, .inl rfl⟩
    · exact ⟨_, hq, (demote_tag d).trans tag_p, state_demote⟩
  · intro j a y hj ht hy
    rw [hs] at hj
    split at hj
    · rename_i e
      cases hj
      cases y <;> simp [promote, Place.state] at hy
      exact mem.2 (.inl ⟨e.symm, rfl⟩)
    · rename_i nk
      split at hj
      · rename_i e
        cases hj
        rcases state_demote with e' | e' <;> rw [e'] at hy <;> cases y <;> simp [Place.state] at hy
        exact mem.2 (.inr ⟨e.symm, rfl⟩)
      · rename_i np
        have := h.listed j a y hj ht hy
        rcases he with he | he <;> simp [he, DirEntry.bound, Ne.symm nk, Ne.symm np] at this
  · rw [hu]; simp [DirEntry.bound]
  · intro j y z hy hz
    rcases mem.1 hy with ⟨rfl, rfl⟩ | ⟨rfl, rfl⟩ <;> rcases mem.1 hz with ⟨e, rfl⟩ | ⟨e, rfl⟩
    · rfl
    · exact absurd e.symm hp
    · exact absurd e hp
    · rfl
  · intro i j y z hy hz e
    rcases mem.1 hy with ⟨rfl, rfl⟩ | ⟨rfl, rfl⟩ <;> rcases mem.1 hz with ⟨rfl, rfl⟩ | ⟨rfl, rfl⟩
    · rfl
    · rw [marker_k, marker_p] at e; exact absurd e apart
    · rw [marker_k, marker_p] at e; exact absurd e.symm apart
    · rfl

/-- Rolled over, a STANDBY alone under its tag holds place ACTIVE (Table 2-3). -/
theorem TagMatches.roll_alone {s u : State} {t : Tag} {k : SlotNo} {c : Context} (h : TagMatches s t)
    (he : s.entry t = ⟨none, some k, none⟩) (hc : s.slot k = some c) (hu : u.entry t = ⟨some k, none, none⟩)
    (hs : ∀ j, u.slot j = if k = j then some (promote c) else s.slot j) : TagMatches u t := by
  have hk : u.slot k = some (promote c) := by rw [hs, if_pos rfl]
  have tag_k : c.tag = t := by
    obtain ⟨b, hb, ht, -⟩ := h.bound k .standby (by simp [he, DirEntry.bound])
    cases hc.symm.trans hb; exact ht
  have mem : ∀ {j : SlotNo} {y : Place}, (j, y) ∈ (u.entry t).bound ↔ j = k ∧ y = .active := by
    intro j y; rw [hu]; simp [DirEntry.bound]
  constructor
  · intro j y hj
    obtain ⟨rfl, rfl⟩ := mem.1 hj
    exact ⟨_, hk, tag_k, .inl rfl⟩
  · intro j a y hj ht hy
    rw [hs] at hj
    split at hj
    · rename_i e
      cases hj
      cases y <;> simp [promote, Place.state] at hy
      exact mem.2 ⟨e.symm, rfl⟩
    · rename_i nk
      have := h.listed j a y hj ht hy
      simp [he, DirEntry.bound, Ne.symm nk] at this
  · rw [hu]; simp [DirEntry.bound]
  · intro j y z hy hz
    exact (mem.1 hy).2.trans (mem.1 hz).2.symm
  · intro i j y z hy hz _
    exact (mem.1 hy).1.trans (mem.1 hz).1.symm

end Sys2Proof.Machine
end

section
/-! PROOFS. Roll-overs, and changes: runs with at most one roll-over. -/

namespace Sys2Proof.Machine
open Sys2Proof

/-- What a roll-over of a STANDBY changes: the slot becomes ACTIVE, and its partner, if any, is demoted (R37). -/
theorem swapRoles_slot {n : SlotNo → Nat} {m : RecipeNo → Nat} {s : State} (h : Agrees n m s) {k : SlotNo} {c : Context}
    (hc : s.slot k = some c) (hs : c.state = .standby) (j : SlotNo) :
    (swapRoles c.tag k s).slot j = s.slot j ∨ j = k ∧ (swapRoles c.tag k s).slot j = some (promote c) ∨
      j ≠ k ∧ ∃ d, s.slot j = some d ∧ d.tag = c.tag ∧ (swapRoles c.tag k s).slot j = some (demote d) := by
  have hm := directoryMatches_iff.1 h.directory c.tag
  have hk : (s.entry c.tag).standby = some k := DirEntry.mem_bound.1 (hm.listed k c .standby hc rfl hs)
  rcases hm.standby_pair hk with he | ⟨p, hp, he⟩
  · rw [swapRoles_alone_slot he hc]
    split
    · rename_i e; exact .inr (.inl ⟨e.symm, rfl⟩)
    · exact .inl rfl
  · have hb : ∃ x, (p, x) ∈ (s.entry c.tag).bound := by
      rcases he with he | he
      · exact ⟨.active, by simp [he, DirEntry.bound]⟩
      · exact ⟨.draining, by simp [he, DirEntry.bound]⟩
    obtain ⟨x, hx⟩ := hb
    obtain ⟨d, hd, ht, -⟩ := hm.bound p x hx
    rw [swapRoles_pair_slot hp he hc hd]
    split
    · rename_i e; exact .inr (.inl ⟨e.symm, rfl⟩)
    · split
      · rename_i e; subst e; exact .inr (.inr ⟨hp, d, hd, ht, rfl⟩)
      · exact .inl rfl

/-- A roll-over keeps the Tag Directory matched (R37, Table 2-3). -/
theorem swapRoles_directory {n : SlotNo → Nat} {m : RecipeNo → Nat} {s : State} (h : Agrees n m s) {k : SlotNo}
    {c : Context} (hc : s.slot k = some c) (hs : c.state = .standby) : DirectoryMatches (swapRoles c.tag k s) := by
  have hm := directoryMatches_iff.1 h.directory c.tag
  have hb : (k, Place.standby) ∈ (s.entry c.tag).bound := hm.listed k c .standby hc rfl hs
  have entry : ∀ x, (swapRoles c.tag k s).entry x =
      if x = c.tag then (s.entry c.tag).rolled k else s.entry x := fun x => by
    have hd : (updateSome (partnerOf s c.tag k) demote s).dir = s.dir := updateSome_dir _ _ _
    refine (entry_setEntry _ c.tag x _ ?_).trans ?_
    · show List.Pairwise _ (updateSome (partnerOf s c.tag k) demote s).dir
      rw [hd]; exact h.formed.1
    · rw [entry_updateSlot, entry_of_dir hd]
  refine h.directory.update c.tag (fun x hx => by rw [entry, if_neg hx]) (fun j a ha => ?_) ?_
  · rcases swapRoles_slot h hc hs j with e | ⟨rfl, e⟩ | ⟨-, d, hd, ht, e⟩
    · rw [e]
    · rw [e, hc]; constructor <;> intro g <;> cases g <;> exact absurd rfl ha
    · rw [e, hd]
      constructor <;> intro g <;> cases g
      · exact absurd ht ha
      · exact absurd ((demote_tag d).trans ht) ha
  · rcases hm.standby_pair (DirEntry.mem_bound.1 hb) with he | ⟨p, hp, he⟩
    · refine hm.roll_alone he hc ?_ (swapRoles_alone_slot he hc)
      rw [entry, if_pos rfl, he]; simp [DirEntry.rolled, Option.filter]
    · have hb : ∃ x, (p, x) ∈ (s.entry c.tag).bound := by
        rcases he with he | he
        · exact ⟨.active, by simp [he, DirEntry.bound]⟩
        · exact ⟨.draining, by simp [he, DirEntry.bound]⟩
      obtain ⟨x, hx⟩ := hb
      obtain ⟨d, hd, -⟩ := hm.bound p x hx
      refine hm.roll hp he hc hd ?_ (swapRoles_pair_slot hp he hc hd)
      rw [entry, if_pos rfl]
      rcases he with he | he <;> simp [he, DirEntry.rolled, Option.filter, hp]

theorem Roll.agrees {n : SlotNo → Nat} {m : RecipeNo → Nat} {s t : State} (r : Roll s t) (h : Agrees n m s) :
    Agrees n m t := by
  obtain ⟨k, c, hc, hs, rfl⟩ := r
  have hb : (k, Place.standby) ∈ (s.entry c.tag).bound := h.directory.listed k c .standby hc hs
  refine h.turned (fun j => ?_) (swapRoles_frame _ _ _) ?_ (swapRoles_directory h hc hs)
  · rcases swapRoles_slot h hc hs j with e | ⟨rfl, e⟩ | ⟨-, d, hd, -, e⟩
    · rw [e]; exact rel_refl .refl _
    · rw [e, hc]
      exact .some ⟨rfl, .inr ⟨by rw [hs]; exact CtxState.noConfusion, CtxState.noConfusion⟩, fun g => CtxState.noConfusion g⟩
    · rw [e, hd]
      refine .some ⟨demote_inFlight d, ?_, fun g => .inl ?_⟩
      · by_cases ha : d.state = .active
        · refine .inr ⟨by rw [ha]; exact CtxState.noConfusion, ?_⟩
          rw [demote_state, if_pos ha]; exact CtxState.noConfusion
        · exact .inl (if_neg ha)
      · rw [demote_state] at g
        split at g
        · cases g
        · exact g
  · have hf : DirectoryFormed ((updateSome (partnerOf s c.tag k) demote s).updateSlot k promote) := by
      unfold DirectoryFormed
      rw [updateSlot_dir, updateSome_dir]; exact h.formed
    exact hf.setEntry (.inl (h.formed.tag_used hb))

/-- The changes of state of a roll-over (Table 1-3). -/
def CtxState.mayRoll (a b : CtxState) : Prop := b = a ∨ a = .standby ∧ b = .active ∨ a = .active ∧ b = .draining

theorem Context.Sound.promoted {c : Context} (h : c.Sound) (hs : c.state = .standby) : (promote c).Sound :=
  ⟨h.tagUsed, h.recipesUsed, h.ceilingLow, h.ceilingHigh, h.nextLow, h.nextHigh, h.lifeUsed, h.lifeHigh, h.markHigh,
    h.keyHeld.trans (by rw [hs]; rfl), fun e => by have := h.timerDraining e; rw [hs] at this; cases this⟩

theorem Context.Sound.demoted {c : Context} (h : c.Sound) : (demote c).Sound := by
  unfold demote
  split
  · rename_i ha
    exact ⟨h.tagUsed, h.recipesUsed, h.ceilingLow, h.ceilingHigh, h.nextLow, h.nextHigh, h.lifeUsed, h.lifeHigh, h.markHigh,
      h.keyHeld.trans (by rw [ha]; rfl), fun _ => rfl⟩
  · exact h

/-- A roll-over keeps contexts sound, and what lasts of them. -/
theorem Roll.contexts {n : SlotNo → Nat} {m : RecipeNo → Nat} {s t : State} (r : Roll s t) (h : Agrees n m s)
    (hs : ContextsSound s) :
    ContextsSound t ∧ ∀ (k : SlotNo) (d : Context), t.slot k = some d →
      ∃ c, s.slot k = some c ∧ c.Continues d ∧ c.state.mayRoll d.state := by
  obtain ⟨k, c, hc, hst, rfl⟩ := r
  constructor
  · intro j d hd
    rcases swapRoles_slot h hc hst j with e | ⟨rfl, e⟩ | ⟨-, a, ha, -, e⟩
    · exact hs j d (e ▸ hd)
    · cases e.symm.trans hd; exact (hs j c hc).promoted hst
    · cases e.symm.trans hd; exact (hs j a ha).demoted
  · intro j d hd
    rcases swapRoles_slot h hc hst j with e | ⟨rfl, e⟩ | ⟨-, a, ha, -, e⟩
    · exact ⟨d, e ▸ hd, .refl d, .inl rfl⟩
    · cases e.symm.trans hd
      exact ⟨c, hc, .turn c _ _ _ _, .inr (.inl ⟨hst, rfl⟩)⟩
    · cases e.symm.trans hd
      refine ⟨a, ha, ?_, ?_⟩
      · unfold demote
        split
        · exact .turn a _ _ _ _
        · exact .refl a
      · rw [demote_state]
        split
        · rename_i g; exact .inr (.inr ⟨g, rfl⟩)
        · exact .inl rfl

theorem Roll.apart {s t : State} (r : Roll s t) : Apart s t := by
  obtain ⟨k, c, -, -, rfl⟩ := r
  exact .of_frame (by rw [swapRoles_frame])

/-! ## Changes: a run with at most one roll-over in it -/

/-- What one step changes of the contexts in use: a run of changes with at most one roll-over in it. -/
def Change (s t : State) : Prop := Run s t ∨ ∃ u v, Run s u ∧ Roll u v ∧ Run v t

theorem Run.change {s t : State} (r : Run s t) : Change s t := .inl r

theorem Change.refl (s : State) : Change s s := .inl .refl

theorem Run.trans_change {s t u : State} (r : Run s t) (c : Change t u) : Change s u := by
  rcases c with c | ⟨v, w, h1, h2, h3⟩
  · exact .inl (r.trans c)
  · exact .inr ⟨v, w, r.trans h1, h2, h3⟩

theorem Change.trans_run {s t u : State} (c : Change s t) (r : Run t u) : Change s u := by
  rcases c with c | ⟨v, w, h1, h2, h3⟩
  · exact .inl (c.trans r)
  · exact .inr ⟨v, w, h1, h2, h3.trans r⟩

theorem Change.agrees {n : SlotNo → Nat} {m : RecipeNo → Nat} {s t : State} (c : Change s t) (h : Agrees n m s) :
    Agrees n m t := by
  rcases c with r | ⟨u, v, r1, o, r2⟩
  · exact r.agrees h
  · exact r2.agrees (o.agrees (r1.agrees h))

theorem Change.apart {s t : State} (c : Change s t) : Apart s t := by
  rcases c with r | ⟨u, v, r1, o, r2⟩
  · exact r.apart
  · exact r1.apart.trans (o.apart.trans r2.apart)

theorem Change.records {s t : State} (c : Change s t) (h : RecordsSound s) : RecordsSound t := by
  rcases c with r | ⟨u, v, r1, ⟨k, c, -, -, rfl⟩, r2⟩
  · exact r.records h
  · exact r2.records ((r1.records h).of_conds (swapRoles_conds _ _ _))

theorem CtxState.mayBecome_of_fall {a b : CtxState} (h : a.mayFall b) : a.mayBecome b = true := by
  rcases h with rfl | ⟨h, rfl⟩ | ⟨h, rfl⟩
  · cases b <;> rfl
  · revert h
    cases a <;> decide
  · revert h
    cases a <;> decide

theorem CtxState.mayBecome_of_roll {a b c d : CtxState} (h : a.mayFall b) (g : b.mayRoll c) (i : c.mayFall d) :
    a.mayBecome d = true := by
  rcases g with rfl | ⟨rfl, rfl⟩ | ⟨rfl, rfl⟩
  · exact mayBecome_of_fall (h.trans i)
  · obtain rfl : CtxState.standby = a := by
      rcases h with h | ⟨-, h⟩ | ⟨-, h⟩
      · exact h
      · cases h
      · cases h
    rcases i with rfl | ⟨-, rfl⟩ | ⟨-, rfl⟩ <;> rfl
  · obtain rfl : CtxState.active = a := by
      rcases h with h | ⟨-, h⟩ | ⟨-, h⟩
      · exact h
      · cases h
      · cases h
    rcases i with rfl | ⟨-, rfl⟩ | ⟨-, rfl⟩ <;> rfl

/-- What is said of contexts from one step to the next (R3, R8, R10 to R13, R29, Table 1-3). -/
def Lasts (s t : State) : Prop := ∀ (k : SlotNo) (c d : Context), s.slot k = some c → t.slot k = some d →
  c.Continues d ∧ c.state.mayBecome d.state = true

theorem Lasts.of_origin {s t : State} (h : ∀ (k : SlotNo) (d : Context), t.slot k = some d →
    ∃ c, s.slot k = some c ∧ c.Continues d ∧ c.state.mayBecome d.state = true) : Lasts s t := by
  intro k c d hc hd
  obtain ⟨b, hb, g⟩ := h k d hd
  cases hc.symm.trans hb
  exact g

theorem Change.contexts {n : SlotNo → Nat} {m : RecipeNo → Nat} {s t : State} (c : Change s t) (h : Agrees n m s)
    (hs : ContextsSound s) : ContextsSound t ∧ Lasts s t := by
  rcases c with r | ⟨u, v, r1, o, r2⟩
  · obtain ⟨h1, h2⟩ := r.contexts hs
    refine ⟨h1, .of_origin fun k d hd => ?_⟩
    obtain ⟨c, hc, g1, g2⟩ := h2 k d hd
    exact ⟨c, hc, g1, CtxState.mayBecome_of_fall g2⟩
  · obtain ⟨h1, f1⟩ := r1.contexts hs
    obtain ⟨h2, f2⟩ := o.contexts (r1.agrees h) h1
    obtain ⟨h3, f3⟩ := r2.contexts h2
    refine ⟨h3, .of_origin fun k d hd => ?_⟩
    obtain ⟨c, hc, g3, i3⟩ := f3 k d hd
    obtain ⟨b, hb, g2, i2⟩ := f2 k c hc
    obtain ⟨a, ha, g1, i1⟩ := f1 k b hb
    exact ⟨a, ha, g1.trans (g2.trans g3), CtxState.mayBecome_of_roll i1 i2 i3⟩

end Sys2Proof.Machine
end

section
/-! PROOFS. The shared operations, the timers and the dispatch checks as runs of changes. -/

namespace Sys2Proof.Machine
open Sys2Proof

/-! ## The shared operations as runs -/

theorem Run.setSlot {s : State} {k : SlotNo} {c d : Context} (hc : s.slot k = some c) (h : c.Upkeep d) :
    Run s (s.setSlot k (some d)) := by
  refine Quiet.run (.slots rfl fun j => ?_)
  rw [slot_setSlot]
  split
  · rename_i e; rw [← e, hc]; exact .some h
  · exact rel_refl .refl _

theorem Run.updateSlot {s : State} {k : SlotNo} {f : Context → Context}
    (h : ∀ c, s.slot k = some c → c.Upkeep (f c)) : Run s (s.updateSlot k f) := by
  refine Quiet.run (.slots rfl fun j => ?_)
  rw [slot_updateSlot]
  split
  · rename_i e; rw [← e]
    cases hc : s.slot k with
    | none => exact .none
    | some c => exact .some (h c hc)
  · exact rel_refl .refl _

theorem Run.damage (ds : List Damage) (s : State) : Run s (damage ds s) := by
  refine Quiet.run (.slots (damage_frame ds s) fun k => ?_)
  rw [damage_slot]
  cases s.slot k with
  | none => exact .none
  | some c => exact .some (.counters c _ _ _ _ _ _ _)

theorem Run.raise (r : Raise) (k : SlotNo) (s : State) : Run s (raiseOn r k s) := Quiet.run (.raise r k s)

theorem Run.raiseSome (r : Raise) (k : Option SlotNo) (s : State) : Run s (raiseOnSome r k s) := by
  cases k with
  | none => exact .refl
  | some k => exact .raise r k s

theorem Run.ending (e : Ending) (k : SlotNo) (s : State) : Run s (applyEnding e k s) := Quiet.run (.ending e k s)

theorem Run.aside {s t : State} (h : Aside s t) : Run s t := Quiet.run (.aside h)

theorem Run.quarantine {s : State} {k : SlotNo} {c : Context} (hc : s.slot k = some c) (hl : c.state.live = true)
    (p : CondPhase) (q : Option SeqNo) (g : CheckGroup) : Run s (quarantine p q g k s) := by
  have mark : Run s (s.updateSlot k quarantinedContext) := .updateSlot fun d hd => by
    cases hc.symm.trans hd; exact .quarantined hl
  exact ((mark.trans (.aside (.endJobs _ _ _))).trans (.raise _ _ _)).trans (.ending _ _ _)

theorem failingGroup_live {c : Context} {g : CheckGroup} (h : failingGroup c = some g) : c.state.live = true := by
  unfold failingGroup at h
  split at h
  · assumption
  · cases h

/-- A record check passes and changes nothing, or it fails and quarantines a live slot (R22, R23). -/
theorem recordCheck_cases (p : CondPhase) (q : Option SeqNo) (k : SlotNo) (s : State) :
    recordCheck p q k s = s ∨ ∃ c g, s.slot k = some c ∧ failingGroup c = some g ∧
      recordCheck p q k s = Machine.quarantine p q g k s := by
  cases h : (s.slot k).bind failingGroup with
  | none => exact .inl (recordCheck_pass h)
  | some g =>
    obtain ⟨c, hc, hg⟩ := Option.bind_eq_some_iff.1 h
    exact .inr ⟨c, g, hc, hg, recordCheck_fail h⟩

theorem Run.recordCheck (p : CondPhase) (q : Option SeqNo) (k : SlotNo) (s : State) : Run s (recordCheck p q k s) := by
  rcases recordCheck_cases p q k s with h | ⟨c, g, hc, hg, h⟩ <;> rw [h]
  · exact .refl
  · exact .quarantine hc (failingGroup_live hg) p q g

theorem Run.recordCheckSome (p : CondPhase) (q : Option SeqNo) (k : Option SlotNo) (s : State) :
    Run s (recordCheckSome p q k s) := by
  cases k with
  | none => exact .refl
  | some k => exact .recordCheck p q k s

/-- After a record check a slot that is not QUARANTINED passed it: nothing changed (R22, R23). -/
theorem recordCheck_of_slot {p : CondPhase} {q : Option SeqNo} {k : SlotNo} {s : State} {c : Context}
    (hc : (recordCheck p q k s).slot k = some c) (hs : c.state ≠ .quarantined) : recordCheck p q k s = s := by
  rcases recordCheck_cases p q k s with h | ⟨d, g, hd, -, h⟩
  · exact h
  · rw [h, quarantine_slot, if_pos rfl, hd] at hc
    cases hc
    exact absurd rfl hs

/-- A record check leaves a slot's record, or quarantines it. -/
theorem recordCheck_slot (p : CondPhase) (q : Option SeqNo) (k j : SlotNo) (s : State) :
    (recordCheck p q k s).slot j = s.slot j ∨ (recordCheck p q k s).slot j = (s.slot j).map quarantinedContext := by
  rcases recordCheck_cases p q k s with h | ⟨c, g, -, -, h⟩
  · exact .inl (by rw [h])
  · rw [h, quarantine_slot]
    split
    · rename_i e; exact .inr (e ▸ rfl)
    · exact .inl rfl

theorem recordCheckSome_slot (p : CondPhase) (q : Option SeqNo) (k : Option SlotNo) (j : SlotNo) (s : State) :
    (recordCheckSome p q k s).slot j = s.slot j ∨
      (recordCheckSome p q k s).slot j = (s.slot j).map quarantinedContext := by
  cases k with
  | none => exact .inl rfl
  | some k => exact recordCheck_slot p q k j s

theorem Run.drainEnd (r : Reason) (p : CondPhase) (q : Option SeqNo) (k : SlotNo) (s : State) :
    Run s (drainEnd r p q k s) := by
  unfold Machine.drainEnd
  split
  · rename_i c hc
    split
    · rename_i hs
      exact (Quiet.run (.retire hc (by rw [hs]; rfl))).trans (.raiseSome _ _ _)
    · exact .refl
  · exact .refl

/-- A roll-over is a change: its reads are a run, and the change of the roles comes last (R37, R38). -/
theorem Change.rollOver (p : CondPhase) (q : Option SeqNo) (k : SlotNo) (s : State) : Change s (rollOver p q k s) := by
  unfold Machine.rollOver
  split
  · rename_i c hc
    split
    · have reads : Run s (Machine.recordCheckSome p q (partnerOf s c.tag k) (Machine.recordCheck p q k s)) :=
        (Run.recordCheck p q k s).trans (.recordCheckSome _ _ _ _)
      dsimp only
      split
      · rename_i hst
        obtain ⟨d, hd, hds⟩ := slotIs_iff.1 hst
        have tag : d.tag = c.tag := by
          rcases recordCheckSome_slot p q (partnerOf s c.tag k) k (Machine.recordCheck p q k s) with e | e <;>
          rcases recordCheck_slot p q k k s with e' | e' <;> rw [e, e', hc] at hd <;> cases hd <;> rfl
        exact .inr ⟨_, _, reads, ⟨k, d, hd, hds, by rw [tag]⟩, .refl⟩
      · exact .inl reads
    · exact .refl s
  · exact .refl s

/-! ## Timers -/

theorem Run.expireTimer (k : SlotNo) (s : State) : Run s (expireTimer k s) := by
  unfold Machine.expireTimer
  split
  · exact .drainEnd _ _ _ _ _
  · exact .refl

theorem countDownAll_slot (s : State) (k : SlotNo) : (countDownAll s).slot k = (s.slot k).map countDown := by
  simp [countDownAll, State.slot]

theorem Run.countDownAll (s : State) : Run s (countDownAll s) := by
  refine Quiet.run (.slots rfl fun k => ?_)
  rw [countDownAll_slot]
  cases s.slot k with
  | none => exact .none
  | some c => exact .some (.countDown c)

/-! ## The dispatch checks -/

theorem Run.exhausted (first : Bool) (k : SlotNo) (s : State) : Run s (exhausted first k s).1 := by
  unfold Machine.exhausted
  split
  · exact .raise _ _ _
  · exact .refl

theorem Run.markSpent (k : SlotNo) (s : State) : Run s (markSpent k s) := .updateSlot fun c _ => .spent c

/-- The frame may be dispatched under the slot: it is in use and not LOADING, and a protect finds it not spent
(R84). -/
def Dispatchable (s : State) (dir : Direction) (bytes : Nat) (k : SlotNo) : Prop :=
  ∃ c, s.slot k = some c ∧ c.state ≠ .loading ∧ (dir = .toProtect → foundSpent c bytes = false)

/-- What the dispatch checks leave: a change of the contexts, and a slot that the frame may be dispatched under if they
accept it (R76 to R82). -/
structure ChecksDone (s : State) (dir : Direction) (bytes : Nat) (r : State × Decision) : Prop where
  change : Change s r.1
  accepted : ∀ k, r.2 = .accept k → Dispatchable r.1 dir bytes k

theorem ChecksDone.refused {s t : State} {dir : Direction} {bytes : Nat} {v : Verdict} {k : Option SlotNo}
    (h : Change s t) : ChecksDone s dir bytes (t, .refuse v k) := ⟨h, fun _ e => Decision.noConfusion e⟩

theorem ChecksDone.exhausted {s t : State} {dir : Direction} {bytes : Nat} (first : Bool) (k : SlotNo)
    (h : Change s t) : ChecksDone s dir bytes (exhausted first k t) :=
  ⟨h.trans_run (.exhausted first k t), fun _ e => Decision.noConfusion e⟩

theorem slotChecks_none {h : JobHeader} {k : SlotNo} {s : State} (e : slotChecks h k s = none) :
    ∃ c, s.slot k = some c ∧ c.state ≠ .quarantined := by
  unfold slotChecks at e
  split at e
  · cases e
  · rename_i c hc
    refine ⟨c, hc, fun hq => ?_⟩
    rw [slotHeld_of_slot hc, hq] at e
    cases e

theorem ChecksDone.lastSpentTest {s t : State} {dir : Direction} {bytes : Nat} {k : SlotNo} {c : Context}
    (h : Change s t) (hc : t.slot k = some c) (hl : c.state ≠ .loading) :
    ChecksDone s dir bytes (lastSpentTest bytes k t) := by
  unfold Machine.lastSpentTest
  split
  · exact .exhausted _ _ (h.trans_run (.markSpent k t))
  · rename_i hf
    refine ⟨h, fun j e => ?_⟩
    cases e
    exact ⟨c, hc, hl, fun _ => by simpa [hc] using hf⟩

theorem ChecksDone.spentSlot {s : State} {bytes : Nat} (atRoll : List Damage) (h : JobHeader) (k : SlotNo) {dir : Direction} :
    ChecksDone s dir bytes (spentSlot atRoll h bytes k s) := by
  have mark := Run.markSpent k s
  unfold Machine.spentSlot
  dsimp only
  split
  · exact .exhausted _ _ mark.change
  · rename_i p _
    have roll : Change s (rollOver .dispatch none p (Machine.damage atRoll (markSpent k s))) :=
      (mark.trans (.damage _ _)).trans_change (.rollOver _ _ _ _)
    split
    · rename_i ha
      obtain ⟨c, hc, hs⟩ := slotIs_iff.1 ha
      have raise := roll.trans_run (.raise { cls := .rollover, phase := some .dispatch, reason := some .life } p _)
      unfold afterLifeRoll
      dsimp only
      split
      · exact .refused raise
      · exact .lastSpentTest raise (by rw [raiseOn_slot, hc]) (by rw [hs]; exact CtxState.noConfusion)
    · split
      · exact .refused roll
      · exact .exhausted _ _ roll

/-- The lookup finds a bound slot (R34, R35). -/
theorem lookupSlot_bound {h : JobHeader} {s : State} {k : SlotNo} (e : lookupSlot h s = .ok k) :
    ∃ p, (k, p) ∈ (s.entry h.tag).bound := by
  unfold lookupSlot at e
  split at e
  · split at e
    · cases e
    · split at e
      · rename_i j hj
        cases e
        exact ⟨.active, DirEntry.mem_bound.2 hj⟩
      · cases e
  · split at e
    · rename_i b hb
      cases e
      exact ⟨b.2, List.mem_of_find?_eq_some hb⟩
    · cases e

theorem ChecksDone.checksUnder {s t : State} {bytes : Nat} (atRoll : List Damage) (h : JobHeader) {k : SlotNo}
    (r : Run s t) (hl : ∀ c, t.slot k = some c → c.state ≠ .loading) :
    ChecksDone s h.dir bytes (checksUnder atRoll h bytes k t) := by
  unfold Machine.checksUnder
  split
  · exact .refused r.change
  · rename_i hn
    obtain ⟨c, hc, -⟩ := slotChecks_none hn
    split
    · rename_i hd
      refine ⟨r.change, fun j e => ?_⟩
      cases e
      exact ⟨c, hc, hl c hc, fun g => by rw [hd] at g; cases g⟩
    · rename_i hd
      split
      · have sp := ChecksDone.spentSlot (s := t) (bytes := bytes) (dir := .toProtect) atRoll h k
        rw [hd]
        exact ⟨r.trans_change sp.change, sp.accepted⟩
      · rename_i hf
        refine ⟨r.change, fun j e => ?_⟩
        cases e
        exact ⟨c, hc, hl c hc, fun _ => by simpa [hc] using hf⟩

/-- What the dispatch checks from the lookup on do (R76). -/
theorem ChecksDone.checksFromLookup {n : SlotNo → Nat} {m : RecipeNo → Nat} {s : State} (a : Agrees n m s) {bytes : Nat}
    (atRoll : List Damage) (h : JobHeader) : ChecksDone s h.dir bytes (checksFromLookup atRoll h bytes s) := by
  unfold Machine.checksFromLookup
  split
  · exact .refused (.refl s)
  · rename_i k hk
    refine .checksUnder atRoll h (.recordCheck _ _ _ _) fun d hd => ?_
    obtain ⟨p, hb⟩ := lookupSlot_bound hk
    obtain ⟨c, hc, -, hs⟩ := a.directory.bound _ _ _ hb
    rcases recordCheck_slot .dispatch none k k s with e | e <;> rw [e, hc] at hd <;> cases hd
    · rcases hs with e | e <;> rw [e]
      · cases p <;> exact CtxState.noConfusion
      · exact CtxState.noConfusion
    · exact CtxState.noConfusion

/-- A reservation and its charge under a slot not found spent (R84). -/
theorem Run.reserve {s : State} {dir : Direction} {bytes : Nat} {k : SlotNo} (h : Dispatchable s dir bytes k) :
    Run s (reserve dir bytes k s) := by
  obtain ⟨c, hc, -, hs⟩ := h
  cases dir with
  | toAdmit => exact .refl
  | toProtect =>
    have charge : Run s (s.updateSlot k (chargeContext bytes)) := .updateSlot fun d hd => by
      cases hc.symm.trans hd; exact .charged (hs rfl)
    unfold Machine.reserve testLifeLow
    dsimp only
    split
    · exact (charge.trans (.updateSlot fun d _ => .lowReported d)).trans (.raise _ _ _)
    · exact charge

end Sys2Proof.Machine
end

section
/-! PROOFS. What one event of the running part keeps. -/

namespace Sys2Proof.Machine
open Sys2Proof

/-! ## What a step keeps -/

/-- The anchors that are REVOKED or DEFECTIVE stay as they are (R176). -/
def SpentAnchorsStay (s t : State) : Prop :=
  ∀ a : AnchorNo, (s.anchor a).state = .revoked ∨ (s.anchor a).state = .defective → t.anchor a = s.anchor a

/-- The lock ranges in use with their sticky flag set stay as they are (R186). -/
def StickyRangesStay (s t : State) : Prop :=
  ∀ (n : RangeNo) (r : LockRange), s.lockRange n = some r → r.sticky = true → t.lockRange n = some r

/-- Everything that the statements about every step say of one event of the running part. -/
structure Keeps (s t : State) : Prop where
  blocks : BlocksAgree t
  contexts : ContextsSound s → ContextsSound t ∧ Lasts s t
  recipes : RecipesSound s → RecipesSound t
  locks : LocksSound s → LocksSound t
  sticky : StickyRangesStay s t
  anchors : AnchorsSound s → AnchorsSound t ∧ SpentAnchorsStay s t
  records : RecordsSound s → RecordsSound t
  queue : QueueFits s → QueueFits t
  power : t.power = s.power
  port : t.port = s.port

theorem CtxState.mayBecome_of_fall_become {a b c : CtxState} (h : a.mayFall b) (g : b.mayBecome c = true) :
    a.mayBecome c = true := by
  rcases h with rfl | ⟨h, rfl⟩ | ⟨h, rfl⟩
  · exact g
  · revert h g
    cases a <;> cases c <;> decide
  · revert h g
    cases a <;> cases c <;> decide

theorem RecipesSound.of_defn {s t : State} (h : RecipesSound s) (e : ∀ n, (t.recipe n).defn = (s.recipe n).defn) :
    RecipesSound t := fun n d hd => h n d (by rw [← e]; exact hd)

theorem RecipesSound.of_recipes {s t : State} (h : RecipesSound s) (e : t.recipes = s.recipes) : RecipesSound t :=
  h.of_defn fun n => by rw [recipe_of_recipes e]

theorem lockRange_of_locks {s t : State} (h : t.locks = s.locks) (n : RangeNo) : t.lockRange n = s.lockRange n := by
  simp [State.lockRange, h]

theorem anchor_of_anchors {s t : State} (h : t.anchors = s.anchors) (a : AnchorNo) : t.anchor a = s.anchor a := by
  simp [State.anchor, h]

theorem LocksSound.of_locks {s t : State} (h : LocksSound s) (e : t.locks = s.locks) : LocksSound t :=
  fun n r hr => h n r (by rw [← lockRange_of_locks e]; exact hr)

theorem StickyRangesStay.of_locks {s t : State} (e : t.locks = s.locks) : StickyRangesStay s t :=
  fun n r hr _ => by rw [lockRange_of_locks e]; exact hr

theorem AnchorsSound.of_anchors {s t : State} (h : AnchorsSound s) (e : t.anchors = s.anchors) (hp : t.power = s.power)
    (hu : ∀ a, (t.unit = .programming a ↔ s.unit = .programming a) ∧ (t.unit = .revoking a ↔ s.unit = .revoking a)) :
    AnchorsSound t where
  each := fun a => by rw [anchor_of_anchors e]; exact h.each a
  programming := fun g a => by rw [anchor_of_anchors e, (hu a).1]; exact h.programming (hp ▸ g) a
  revoking := fun g a => by rw [anchor_of_anchors e, (hu a).2]; exact h.revoking (hp ▸ g) a

theorem SpentAnchorsStay.of_anchors {s t : State} (e : t.anchors = s.anchors) : SpentAnchorsStay s t :=
  fun a _ => anchor_of_anchors e a

theorem QueueFits.of_names {s t : State} (h : QueueFits s) (e : SameNames s.queue t.queue) : QueueFits t := by
  unfold QueueFits
  rw [← e.length_eq]; exact h

/-- A change keeps everything. -/
theorem Change.keeps {s t : State} (c : Change s t) (h : BlocksAgree s) : Keeps s t where
  blocks := .of_counts (c.agrees (blocksAgree_iff.1 h)) c.apart.queue.countP_names c.apart.queue.countP_namesRecipe
  contexts := c.contexts (blocksAgree_iff.1 h)
  recipes := fun g => g.of_recipes c.apart.recipes
  locks := fun g => g.of_locks c.apart.locks
  sticky := .of_locks c.apart.locks
  anchors := fun g => ⟨g.of_anchors c.apart.anchors c.apart.power fun a => by rw [c.apart.unit]; exact ⟨.rfl, .rfl⟩,
    .of_anchors c.apart.anchors⟩
  records := c.records
  queue := fun g => g.of_names c.apart.queue
  power := c.apart.power
  port := c.apart.port

theorem Run.keeps {s t : State} (r : Run s t) (h : BlocksAgree s) : Keeps s t := r.change.keeps h

theorem Run.blocks {s t : State} (r : Run s t) (h : BlocksAgree s) : BlocksAgree t := (r.keeps h).blocks

/-- What is kept after a run of changes that frees no slot is kept from its start. -/
theorem Run.trans_keeps {s t u : State} (r : Run s t) (free : ∀ k, t.slot k = none → s.slot k = none) (k : Keeps t u)
    (h : BlocksAgree s) : Keeps s u := by
  have g := r.keeps h
  refine ⟨k.blocks, fun hs => ?_, k.recipes ∘ g.recipes, k.locks ∘ g.locks, fun n x hx hst => ?_, fun ha => ?_,
    k.records ∘ g.records, k.queue ∘ g.queue, k.power.trans g.power, k.port.trans g.port⟩
  · obtain ⟨h1, f1⟩ := r.contexts hs
    obtain ⟨h2, f2⟩ := k.contexts h1
    refine ⟨h2, fun j b d hb hd => ?_⟩
    cases hc : t.slot j with
    | none => cases hb.symm.trans (free j hc)
    | some c =>
      obtain ⟨b', hb', g1, i1⟩ := f1 j c hc
      cases hb.symm.trans hb'
      obtain ⟨g2, i2⟩ := f2 j c d hc hd
      exact ⟨g1.trans g2, CtxState.mayBecome_of_fall_become i1 i2⟩
  · exact k.sticky n x (g.sticky n x hx hst) hst
  · obtain ⟨h1, -⟩ := g.anchors ha
    obtain ⟨h2, f2⟩ := k.anchors h1
    refine ⟨h2, fun a hr => ?_⟩
    have e := anchor_of_anchors r.apart.anchors a
    rw [f2 a (by rw [e]; exact hr), e]

end Sys2Proof.Machine
end

section
/-! PROOFS. Dispatch and release keep everything. -/

namespace Sys2Proof.Machine
open Sys2Proof

/-! ## Dispatch and release -/

/-- What lasts between two states of which the later differs in in-flight counts and in the queue. -/
structure Counted (u t : State) : Prop where
  contexts : ∀ (k : SlotNo) (d : Context), t.slot k = some d → ∃ c n, u.slot k = some c ∧ d = c.withFrames n
  defn : ∀ i : RecipeNo, (t.recipe i).defn = (u.recipe i).defn
  records : RecordsSound u → RecordsSound t
  anchors : t.anchors = u.anchors
  unit : t.unit = u.unit
  locks : t.locks = u.locks
  power : t.power = u.power
  port : t.port = u.port

theorem Context.Sound.withFrames {c : Context} (h : c.Sound) (n : Nat) : (c.withFrames n).Sound :=
  ⟨h.tagUsed, h.recipesUsed, h.ceilingLow, h.ceilingHigh, h.nextLow, h.nextHigh, h.lifeUsed, h.lifeHigh, h.markHigh,
    h.keyHeld, h.timerDraining⟩

theorem Context.Continues.withFrames (c : Context) (n : Nat) : c.Continues (c.withFrames n) :=
  ⟨rfl, rfl, rfl, rfl, rfl, rfl, BitVec.le_refl _, BitVec.le_refl _, BitVec.le_refl _, id, id⟩

/-- A change of the state with another queue, and then of counts, keeps everything if the queue still fits and the
blocks agree in the end. -/
theorem Change.keeps_counted {s u t : State} {q : List Entry} (c : Change { s with queue := q } u) (h : BlocksAgree s)
    (k : Counted u t) (hb : BlocksAgree t) (hq : QueueFits s → QueueFits t) : Keeps s t := by
  have a := c.apart
  have ha' : Agrees (entriesNaming s) (entriesNamingRecipe s) { s with queue := q } :=
    (blocksAgree_iff.1 h).of_kept (.of_slots rfl) rfl (fun _ => rfl) rfl rfl rfl id
  refine ⟨hb, fun hs => ?_, fun g => ?_, fun g => ?_, fun i x hx _ => ?_, fun g => ⟨?_, ?_⟩, fun g => ?_, hq, ?_, ?_⟩
  · obtain ⟨h1, h2⟩ := c.contexts ha' hs
    constructor
    · intro j d hd
      obtain ⟨b, x, hb, rfl⟩ := k.contexts j d hd
      exact (h1 j b hb).withFrames x
    · intro j a d ha hd
      obtain ⟨b, x, hb, rfl⟩ := k.contexts j d hd
      obtain ⟨g, i⟩ := h2 j a b ha hb
      exact ⟨g.trans (.withFrames b x), i⟩
  · exact g.of_defn fun i => (k.defn i).trans (by rw [recipe_of_recipes a.recipes]; rfl)
  · exact g.of_locks (k.locks.trans a.locks)
  · rw [lockRange_of_locks (k.locks.trans a.locks)]; exact hx
  · exact g.of_anchors (k.anchors.trans a.anchors) (k.power.trans a.power) fun a' => by
      rw [k.unit.trans a.unit]; exact ⟨.rfl, .rfl⟩
  · exact fun a' _ => anchor_of_anchors (k.anchors.trans a.anchors) a'
  · exact k.records (c.records (g.of_conds rfl))
  · exact k.power.trans a.power
  · exact k.port.trans a.port

theorem Change.agrees_blocks {s t : State} (c : Change s t) (h : BlocksAgree s) :
    Agrees (entriesNaming s) (entriesNamingRecipe s) t := c.agrees (blocksAgree_iff.1 h)

/-- A frame refused under the Return Queue's bound keeps everything (R83). -/
theorem Change.keeps_refused {s u : State} (c : Change s u) (h : BlocksAgree s) (hq : s.queue.length < 8)
    (e : RefusedEntry) (i : Intake) :
    Keeps s { u with queue := u.queue ++ [.refused e], intake := i } := by
  have a := c.agrees_blocks h
  have names := c.apart.queue
  refine Change.keeps_counted (q := s.queue) c h
    ⟨fun k d hd => ⟨d, d.inFlight, hd, rfl⟩, fun _ => rfl, fun g => g.of_conds rfl, rfl, rfl, rfl, rfl, rfl⟩ ?_ ?_
  · refine .of_counts (n := entriesNaming s) (m := entriesNamingRecipe s)
      (a.of_kept (.of_slots rfl) rfl (fun _ => rfl) rfl rfl rfl id) (fun k => ?_) fun i => ?_
    · show List.countP _ (u.queue ++ [_]) = _
      rw [List.countP_append, names.countP_names k]; rfl
    · show List.countP _ (u.queue ++ [_]) = _
      rw [List.countP_append, names.countP_namesRecipe i]; rfl
  · intro _
    show (u.queue ++ [_]).length ≤ 8
    have := names.length_eq
    simp; omega

theorem refuseFrame_keeps {s u : State} (c : Change s u) (h : BlocksAgree s) (hq : s.queue.length < 8) (w : FrameWord)
    (j : JobHeader) (v : Verdict) (k : Option SlotNo) : Keeps s (refuseFrame w j v k u) := by
  have count : Run u (countRefused k u) := by
    cases k with
    | none => exact .refl
    | some k => exact .updateSlot fun c _ => .counters c _ _ _ _ _ _ _
  exact (c.trans_run count).keeps_refused h hq _ _

/-- A run that leaves the Context Table, after the last change of it, keeps what was kept. -/
theorem Keeps.trans_run {s t u : State} (k : Keeps s t) (r : Run t u) (e : u.slots = t.slots) : Keeps s u := by
  have g := r.keeps k.blocks
  refine ⟨g.blocks, fun hs => ?_, g.recipes ∘ k.recipes, g.locks ∘ k.locks, fun n x hx hst => ?_, fun ha => ?_,
    g.records ∘ k.records, g.queue ∘ k.queue, g.power.trans k.power, g.port.trans k.port⟩
  · obtain ⟨h1, f1⟩ := k.contexts hs
    exact ⟨h1.of_slots e, fun j c d hc hd => f1 j c d hc (by rw [← slot_of_slots e]; exact hd)⟩
  · exact g.sticky n x (k.sticky n x hx hst) hst
  · obtain ⟨h1, f1⟩ := k.anchors ha
    obtain ⟨h2, -⟩ := g.anchors h1
    exact ⟨h2, fun x hx => (anchor_of_anchors r.apart.anchors x).trans (f1 x hx)⟩

theorem Keeps.trans_aside {s t u : State} (k : Keeps s t) (a : Aside t u) : Keeps s u :=
  k.trans_run (.aside a) (by rw [a.frame])

/-- A frame dispatched to a lane keeps everything (R84). -/
theorem placeJob_keeps {s u : State} (c : Change s u) (h : BlocksAgree s) (hq : s.queue.length < 8) (j : Job) (l : LaneId)
    {x : Context} (hx : u.slot j.slot = some x) (hl : x.state ≠ .loading) :
    Keeps s (placeJob j l (countInFlight j.slot j.recipe u)) := by
  have a := c.agrees_blocks h
  have names := c.apart.queue
  set t := placeJob j l (countInFlight j.slot j.recipe u) with ht
  have hs : ∀ k, t.slot k = if j.slot = k then some (x.withFrames (x.inFlight + 1)) else u.slot k := by
    intro k
    show (State.setLane _ _ _).slot k = _
    rw [slot_setLane, countInFlight, slot_setRecipe, slot_updateSlot, hx]; rfl
  have hr : ∀ i, t.recipe i =
      if j.recipe = i then { u.recipe i with inFlight := (u.recipe i).inFlight + 1 } else u.recipe i := by
    intro i
    show (State.setLane _ _ _).recipe i = _
    rw [recipe_setLane, countInFlight, recipe_setRecipe]
    split
    · rename_i e; subst e; rfl
    · rfl
  have hqueue : t.queue =
      u.queue ++ [.lane { job := j, lane := l, seq := j.reserved, parsed := false, status := .pending }] :=
    rfl
  have hnames : ∀ k, entriesNaming t k = entriesNaming s k + if j.slot = k then 1 else 0 := by
    intro k
    unfold entriesNaming
    rw [hqueue, List.countP_append, names.countP_names k]
    simp [List.countP_cons, Entry.names]
  have hrecipes : ∀ i, entriesNamingRecipe t i = entriesNamingRecipe s i + if j.recipe = i then 1 else 0 := by
    intro i
    unfold entriesNamingRecipe
    rw [hqueue, List.countP_append, names.countP_namesRecipe i]
    simp [List.countP_cons, Entry.namesRecipe]
  have frame : t = { u.setSlot j.slot (some (x.withFrames (x.inFlight + 1))) with
      recipes := t.recipes, intake := t.intake, lastLane := t.lastLane, laneA := t.laneA, laneB := t.laneB
      queue := t.queue, nextJob := t.nextJob } := by
    rw [ht, placeJob, countInFlight, updateSlot_of_some hx]
    cases l <;> rfl
  refine Change.keeps_counted (q := s.queue) c h
    ⟨fun k d hd => ?_, fun i => ?_, fun g => g.of_conds (by rw [frame]; rfl), ?_, ?_, ?_, ?_, ?_⟩ ?_ ?_
  · rw [hs] at hd
    split at hd
    · rename_i e; cases hd; exact ⟨x, _, e ▸ hx, rfl⟩
    · exact ⟨d, d.inFlight, hd, rfl⟩
  · rw [hr]; split <;> rfl
  · rw [frame]; rfl
  · rw [frame]; rfl
  · rw [frame]; rfl
  · rw [frame]; rfl
  · rw [frame]; rfl
  · have counted : Agrees (entriesNaming t) (entriesNamingRecipe t)
        { u.setSlot j.slot (some (x.withFrames (entriesNaming t j.slot))) with recipes := t.recipes } := by
      refine a.recount hx hl (fun _ => ?_) (fun k hk => ?_) (fun i => ?_) rfl
      · rw [hnames, if_pos rfl]; omega
      · rw [hnames, if_neg (Ne.symm hk)]; rfl
      · show (t.recipe i).inFlight = _
        rw [hr, hrecipes]
        split
        · exact congrArg (· + 1) (a.recipes i)
        · exact a.recipes i
    have hn : entriesNaming t j.slot = x.inFlight + 1 := by rw [hnames, if_pos rfl, a.used _ x hx]
    rw [hn] at counted
    refine blocksAgree_iff.2 ?_
    rw [frame]
    exact counted.of_kept (.of_slots rfl) rfl (fun _ => rfl) rfl rfl rfl id
  · intro _
    show t.queue.length ≤ 8
    have := names.length_eq
    rw [hqueue]; simp; omega

theorem Aside.endFraming (j : Job) (i : Intake) (s : State) : Aside s (endFraming j i s) :=
  ⟨rfl, .map _ (endEntry_names _ _), id⟩

theorem reserve_slot_state {s : State} {k : SlotNo} {c : Context} (hc : s.slot k = some c) (dir : Direction) (bytes : Nat) :
    ∃ x, (reserve dir bytes k s).slot k = some x ∧ x.state = c.state := by
  cases dir with
  | toAdmit => exact ⟨c, hc, rfl⟩
  | toProtect =>
    unfold reserve testLifeLow
    dsimp only
    split
    · exact ⟨{ chargeContext bytes c with lowReported := true }, by simp [raiseOn_slot, hc], rfl⟩
    · exact ⟨chargeContext bytes c, by simp [hc], rfl⟩

/-- The taking of a Job Header keeps everything (R72, R76 to R79). -/
theorem takeJobHeader_keeps {s : State} (h : BlocksAgree s) (hq : s.queue.length < 8) (atRoll : List Damage) (w0 : Word)
    (w : FrameWord) : Keeps s (takeJobHeader atRoll w0 w s) := by
  unfold takeJobHeader
  dsimp only
  split
  · exact refuseFrame_keeps (.refl s) h hq _ _ _ _
  · split
    · exact refuseFrame_keeps (.refl s) h hq _ _ _ _
    · split
      · exact refuseFrame_keeps (.refl s) h hq _ _ _ _
      · rename_i d _ _ layout _
        obtain ⟨change, accepted⟩ := ChecksDone.checksFromLookup (blocksAgree_iff.1 h) (bytes := metered layout) atRoll
          (jobHeaderOf w0 w.data)
        unfold settleDispatch
        split
        · exact refuseFrame_keeps change h hq _ _ _ _
        · rename_i k hk
          have ready := accepted k hk
          have reserve := change.trans_run (.reserve ready)
          obtain ⟨c, hc, hl, -⟩ := ready
          obtain ⟨x, hx, up⟩ := reserve_slot_state hc (jobHeaderOf w0 w.data).dir (metered layout)
          have placed := placeJob_keeps reserve h hq
            (newJob (jobHeaderOf w0 w.data) d layout k (checksFromLookup atRoll (jobHeaderOf w0 w.data) (metered layout) s).1)
            (chooseLane (checksFromLookup atRoll (jobHeaderOf w0 w.data) (metered layout) s).1) hx (by rw [up]; exact hl)
          unfold dispatchToLane
          dsimp only
          split
          · exact placed.trans_aside (.endFraming _ _ _)
          · exact placed

/-! ## Release -/

theorem Run.countProgress (k : SlotNo) (s : State) : Run s (s.updateSlot k countProgress) :=
  .updateSlot fun c _ => .counters c _ _ _ _ _ _ _

theorem Run.drainProgress (t : Tag) (seq : SeqNo) (s : State) : Run s (drainProgress t seq s) := by
  unfold Machine.drainProgress
  split
  · dsimp only
    split
    · exact (Run.countProgress _ _).trans (.drainEnd _ _ _ _ _)
    · exact .countProgress _ _
  · exact .refl

theorem Change.peerRoll (atRoll : List Damage) (k : SlotNo) (seq : SeqNo) (s : State) :
    Change s (peerRoll atRoll k seq s) := by
  unfold Machine.peerRoll
  dsimp only
  have roll := (Run.damage atRoll s).trans_change (.rollOver .release (some seq) k (damage atRoll s))
  split
  · exact roll.trans_run (.raise _ _ _)
  · exact roll

theorem Change.afterAdmit (atRoll : List Damage) (k : SlotNo) (seq : SeqNo) (s : State) :
    Change s (afterAdmit atRoll k seq s) := by
  unfold Machine.afterAdmit
  split
  · split
    · exact (Run.drainProgress _ _ _).change
    · split
      · exact .peerRoll _ _ _ _
      · exact .refl s
    · exact .refl s
    · exact .refl s
    · exact .refl s
    · exact .refl s
  · exact .refl s

theorem Run.releaseFailure (k : SlotNo) (seq : SeqNo) (s : State) : Run s (releaseFailure k seq s) := by
  have count : Run s (s.updateSlot k countFailure) := .updateSlot fun c _ => .counters c _ _ _ _ _ _ _
  unfold Machine.releaseFailure
  split
  · split
    · exact count.trans (.raise _ _ _)
    · exact count
  · exact .refl

theorem Change.releaseVerified (atRoll : List Damage) (k : SlotNo) (seq : SeqNo) (s : State) :
    Change s (releaseVerified atRoll k seq s).1 := by
  unfold Machine.releaseVerified
  split
  · rename_i c hc
    split
    · exact (Run.updateSlot fun c _ => .counters c _ _ _ _ _ _ _).change
    · rename_i hw
      have admitted : Run s (s.updateSlot k (countAdmitted seq)) := .updateSlot fun d hd => by
        cases hc.symm.trans hd
        exact .admitted (by rw [BitVec.le_def] at hw ⊢; omega)
      exact admitted.trans_change (.afterAdmit _ _ _ _)
  · exact .refl s

theorem Change.judge (atRoll : List Damage) (o : LaneOutcome) (k : SlotNo) (seq : SeqNo) (s : State) :
    Change s (judge atRoll o k seq s).1 := by
  cases o with
  | finished => exact (Run.updateSlot fun c _ => .counters c _ _ _ _ _ _ _).change
  | malformed => exact .refl s
  | verifyFail => exact (Run.releaseFailure k seq s).change
  | verified => exact .releaseVerified _ _ _ _

theorem Change.decideRelease (atRead atRoll : List Damage) (e : LaneEntry) (s : State) :
    Change s (decideRelease atRead atRoll e s).1 := by
  unfold Machine.decideRelease
  split
  · have check := (Run.damage atRead s).trans (.recordCheck .release e.carried e.job.slot _)
    unfold releaseFinished
    dsimp only
    split
    · exact check.trans_change (.judge _ _ _ _ _)
    · exact check.change
  · exact .refl s
  · exact .refl s

theorem Run.endingAtRelease (v : Verdict) (k : SlotNo) (s : State) : Run s (endingAtRelease v k s) := by
  unfold Machine.endingAtRelease
  split
  · exact .ending _ _ _
  · exact .refl

theorem Aside.sendLane (e : LaneEntry) (v : Verdict) (n : Nat) (s : State) : Aside s (sendLane e v n s) := by
  refine .of_frame ?_
  unfold Machine.sendLane emptyOut
  split
  · cases e.lane <;> rfl
  · rfl

/-- What the decrement of the counts leaves of a slot in use: its record, or nothing when it was RETIRING and this was
its last frame (R18, R126). -/
theorem countReleased_eq {s : State} {k : SlotNo} {i : RecipeNo} {c : Context} (hc : s.slot k = some c) :
    countReleased k i s =
      (let t := s.setRecipe i { s.recipe i with inFlight := (s.recipe i).inFlight - 1 }
       if c.state = .retiring ∧ c.inFlight - 1 = 0 then freeSlot k t
       else t.setSlot k (some (c.withFrames (c.inFlight - 1)))) := by
  have e : (s.updateSlot k fun c => { c with inFlight := c.inFlight - 1 }) =
      s.setSlot k (some (c.withFrames (c.inFlight - 1))) := updateSlot_of_some hc
  unfold countReleased freeIfRetired
  rw [e, slot_setRecipe, slot_setSlot_self]
  dsimp only
  show (if c.state = .retiring ∧ c.inFlight - 1 = 0 then freeSlot k _ else _) = _
  split
  · exact freeSlot_setSlot (s.setRecipe i { s.recipe i with inFlight := (s.recipe i).inFlight - 1 }) k _
  · rfl

/-- The end of a LANE entry's release keeps everything (R117, R126). -/
theorem countReleased_keeps {s u : State} {e : LaneEntry} {rest : List Entry} (hq : s.queue = .lane e :: rest)
    (c : Change { s with queue := rest } u) (h : BlocksAgree s) : Keeps s (countReleased e.job.slot e.job.recipe u) := by
  have a : Agrees (entriesNaming s) (entriesNamingRecipe s) u :=
    c.agrees ((blocksAgree_iff.1 h).of_kept (.of_slots rfl) rfl (fun _ => rfl) rfl rfl rfl id)
  have names := c.apart.queue
  have hn : ∀ k, entriesNaming s k = rest.countP (Entry.names k) + if e.job.slot = k then 1 else 0 := by
    intro k
    simp [entriesNaming, hq, List.countP_cons, Entry.names]
  have hm : ∀ i, entriesNamingRecipe s i = rest.countP (Entry.namesRecipe i) + if e.job.recipe = i then 1 else 0 := by
    intro i
    simp [entriesNamingRecipe, hq, List.countP_cons, Entry.namesRecipe]
  obtain ⟨x, hx⟩ : ∃ x, u.slot e.job.slot = some x := by
    cases hx : u.slot e.job.slot with
    | some x => exact ⟨x, rfl⟩
    | none => have := a.free _ hx; rw [hn, if_pos rfl] at this; omega
  have hcount := a.used _ x hx
  rw [hn, if_pos rfl] at hcount
  have hl : x.state ≠ .loading := fun hl => by
    have := (a.unit.loading _ x hx hl).2.2.1
    omega
  rw [countReleased_eq hx]
  set t := u.setRecipe e.job.recipe { u.recipe e.job.recipe with inFlight := (u.recipe e.job.recipe).inFlight - 1 } with ht
  have hr : ∀ i, (t.recipe i).defn = (u.recipe i).defn ∧ (t.recipe i).inFlight = rest.countP (Entry.namesRecipe i) := by
    intro i
    have := (a.recipes i).trans (hm i)
    rw [ht, recipe_setRecipe]
    split
    · rename_i g; subst g; rw [if_pos rfl] at this; exact ⟨rfl, by show _ - 1 = _; omega⟩
    · rename_i g; rw [if_neg g] at this; exact ⟨rfl, this⟩
  have others : ∀ k ≠ e.job.slot, rest.countP (Entry.names k) = entriesNaming s k := fun k hk => by
    rw [hn, if_neg (Ne.symm hk)]; rfl
  have fits : ∀ {v : State}, v.queue = u.queue → QueueFits s → QueueFits v := by
    intro v hv g
    unfold QueueFits at g ⊢
    have := names.length_eq
    rw [hq, List.length_cons] at g
    rw [hv, ← this]
    show rest.length ≤ 8
    omega
  have agree : ∀ {v : State}, v.queue = u.queue →
      Agrees (fun k => rest.countP (Entry.names k)) (fun i => rest.countP (Entry.namesRecipe i)) v → BlocksAgree v := by
    intro v hv g
    refine .of_counts g (fun k => ?_) fun i => ?_
    · show List.countP _ v.queue = _
      rw [hv]; exact names.countP_names k
    · show List.countP _ v.queue = _
      rw [hv]; exact names.countP_namesRecipe i
  dsimp only
  split
  · rename_i hlast
    have hs : ∀ k, (freeSlot e.job.slot t).slot k = if e.job.slot = k then none else u.slot k := fun j => freeSlot_slot _ j t
    refine c.keeps_counted h ⟨fun k d hd => ?_, fun i => (hr i).1, fun g => RecordsSound.free (g.of_conds rfl) _, rfl, rfl,
      rfl, rfl, rfl⟩ (agree rfl (a.freed (by show List.countP _ _ = 0; omega) others (fun i => (hr i).2)
        rfl a.formed ?_ (a.unit.freed hx hl hs rfl rfl))) (fits rfl)
    · rw [hs] at hd
      split at hd
      · cases hd
      · exact ⟨d, d.inFlight, hd, rfl⟩
    · have unbound := a.directory.unbound_of_state hx (by rw [hlast.1]; intro p; cases p <;> exact CtxState.noConfusion)
        (by rw [hlast.1]; exact CtxState.noConfusion)
      exact a.directory.of_unbound rfl unbound (fun j hj => by rw [hs, if_neg (Ne.symm hj)])
        fun d p g => by rw [hs, if_pos rfl] at g; cases g
  · rename_i hlast
    have hs := slot_setSlot t e.job.slot (c := some (x.withFrames (x.inFlight - 1)))
    have e1 : x.inFlight - 1 = rest.countP (Entry.names e.job.slot) := by omega
    refine c.keeps_counted h ⟨fun k d hd => ?_, fun i => (hr i).1, fun g => g.of_conds rfl, rfl, rfl, rfl, rfl, rfl⟩
      (agree rfl (a.recount hx hl (fun g => ?_) others (fun i => (hr i).2) ?_)) (fits rfl)
    · rw [hs] at hd
      split at hd
      · rename_i g; cases hd; exact ⟨x, _, g ▸ hx, rfl⟩
      · exact ⟨d, d.inFlight, hd, rfl⟩
    · have : x.inFlight - 1 ≠ 0 := fun z => hlast ⟨g, z⟩
      omega
    · rw [e1]; rfl

end Sys2Proof.Machine
end

section
/-! PROOFS. Frame In, the lanes, Frame Out and time keep everything. -/

namespace Sys2Proof.Machine
open Sys2Proof

/-! ## The events of the frame path -/

/-- The release of a REFUSED entry keeps everything (R118). -/
theorem sendRefused_keeps {s : State} (h : BlocksAgree s) {e : RefusedEntry} {rest : List Entry}
    (hq : s.queue = .refused e :: rest) : Keeps s (sendRefused e { s with queue := rest }) := by
  have hn : ∀ k, List.countP (Entry.names k) s.queue = rest.countP (Entry.names k) := fun k => by
    rw [hq]; exact List.countP_cons_of_neg Bool.false_ne_true
  have hm : ∀ i, List.countP (Entry.namesRecipe i) s.queue = rest.countP (Entry.namesRecipe i) := fun i => by
    rw [hq]; exact List.countP_cons_of_neg Bool.false_ne_true
  refine Change.keeps_counted (q := rest) (.refl _) h
    ⟨fun k d hd => ⟨d, d.inFlight, hd, rfl⟩, fun _ => rfl, fun g => g.of_conds rfl, rfl, rfl, rfl, rfl, rfl⟩ ?_ ?_
  · exact .of_counts ((blocksAgree_iff.1 h).of_kept (.of_slots rfl) rfl (fun _ => rfl) rfl rfl rfl id)
      (fun k => (hn k).symm) fun i => (hm i).symm
  · intro g
    have : rest.length + 1 ≤ 8 := by simpa [QueueFits, hq] using g
    exact Nat.le_of_succ_le this

/-- The release of a LANE entry keeps everything (R117). -/
theorem releaseLane_keeps {s : State} (h : BlocksAgree s) {e : LaneEntry} {rest : List Entry}
    (hq : s.queue = .lane e :: rest) (atRead atRoll : List Damage) :
    Keeps s (releaseLane atRead atRoll e { s with queue := rest }) := by
  have decided := (Change.decideRelease atRead atRoll e { s with queue := rest }).trans_run (.endingAtRelease
    (decideRelease atRead atRoll e { s with queue := rest }).2.1 e.job.slot _)
  exact (countReleased_keeps hq decided h).trans_aside (.sendLane _ _ _ _)

theorem releaseHead_keeps {s : State} (h : BlocksAgree s) (atRead atRoll : List Damage) :
    Keeps s (releaseHead atRead atRoll s) := by
  unfold releaseHead
  split
  · rename_i e rest _ hq
    split
    · cases e with
      | refused e => exact sendRefused_keeps h hq
      | lane e => exact releaseLane_keeps h hq atRead atRoll
    · exact Run.refl.keeps h
  · exact Run.refl.keeps h

theorem accepting_queue {s : State} (h : accepting s = true) : s.queue.length < 8 := by
  simp only [accepting, Bool.and_eq_true, decide_eq_true_eq] at h
  exact h.1

theorem Aside.wordInAwait (w : FrameWord) (s : State) : Aside s (wordInAwait w s) := .of_frame rfl

theorem Aside.writeStage (l : LaneId) (bs : List Byte) (arrived : Bool) (s : State) :
    Aside s (writeStage l bs arrived s) := .setLane _ _ _

theorem Run.streamWord (j : Job) (l : LaneId) (n : Nat) (w : FrameWord) (s : State) : Run s (streamWord j l n w s) := by
  have stage : ∀ (arrived : Bool) (i : Intake), Run s { writeStage l (frameBytes w) arrived s with intake := i } :=
    fun arrived i => (Run.aside (.writeStage l _ arrived s)).trans (.aside (.of_frame rfl))
  unfold Machine.streamWord
  dsimp only
  split
  · exact .aside (.endFraming _ _ _)
  · split
    · split
      · exact stage _ _
      · exact .aside (.endFraming _ _ _)
    · exact stage _ _

/-- A word presented on Frame In keeps everything (R73 to R89). -/
theorem frameInWord_keeps {s : State} (h : BlocksAgree s) (atRoll : List Damage) (w : FrameWord) :
    Keeps s (frameInWord atRoll w s) := by
  have waits : Keeps s s := Run.refl.keeps h
  have await : ∀ t, Run s t → Keeps s (wordInAwait w t) := fun t r => (r.trans (.aside (.wordInAwait w t))).keeps h
  unfold frameInWord
  split
  · split
    · exact await s .refl
    · exact waits
  · split
    · rename_i ha
      unfold wordInJobWord
      split
      · exact await s .refl
      · exact takeJobHeader_keeps h (accepting_queue ha) atRoll _ w
    · exact waits
  · unfold wordInStreaming
    split
    · exact await _ (.aside (.endFraming _ _ _))
    · exact (Run.streamWord _ _ _ w s).keeps h
  · unfold wordInDiscarding
    split
    · exact await s .refl
    · exact (Run.aside (.of_frame rfl)).keeps h

/-! ## The lanes -/

theorem Run.setWork (l : LaneId) (f : WorkFrame) (s : State) : Run s (setWork l f s) := .aside (.setLane _ _ _)

theorem Run.moveToWork (l : LaneId) (s : State) : Run s (moveToWork l s) := by
  unfold Machine.moveToWork
  split
  · split
    · exact .aside (.setLane _ _ _)
    · exact .refl
  · exact .refl

theorem Run.moveToOut (l : LaneId) (s : State) : Run s (moveToOut l s) := by
  unfold Machine.moveToOut
  split
  · split
    · exact .aside (.setLane_map_queue _ _ _ (finishEntry_names _ _ _))
    all_goals exact .refl
  · exact .refl

theorem Run.fetchKey (l : LaneId) (s : State) : Run s (fetchKey l s) := by
  unfold Machine.fetchKey
  split
  · split
    · split
      · exact .setWork _ _ _
      · exact .refl
    · exact .refl
  · exact .refl

theorem Run.headerPhase (l : LaneId) (s : State) : Run s (headerPhase l s) := by
  unfold Machine.headerPhase
  split
  · split
    · split
      · exact .setWork _ _ _
      · exact .aside (.setLane_map_queue _ _ _ (writeSeq_names _ _))
    · exact .refl
  · exact .refl

theorem Run.bodyPhase (l : LaneId) (s : State) : Run s (bodyPhase l s) := by
  unfold Machine.bodyPhase
  split
  · split
    · exact .setWork _ _ _
    · exact .refl
  · exact .refl

theorem Run.tagPhase (l : LaneId) (s : State) : Run s (tagPhase l s) := by
  unfold Machine.tagPhase
  split
  · split
    · exact .setWork _ _ _
    · exact .refl
  · exact .refl

theorem Run.laneOffline (l : LaneId) (s : State) : Run s (laneOffline l s) :=
  (Run.aside (.setLane s l _)).trans (.aside (.of_frame rfl))

theorem Run.fullReport (l : LaneId) (p : CondPhase) (j : Job) (s : State) : Run s (fullReport l p j s) :=
  (Run.raise _ _ _).trans (.ending _ _ _)

theorem Run.ancillaryReport (l : LaneId) (j : Job) (f : Option StageFrame) (s : State) :
    Run s (ancillaryReport l j f s) := by
  unfold Machine.ancillaryReport
  split
  · split
    · exact .refl
    · exact (Run.raise _ _ _).trans (.ending _ _ _)
  · exact .refl

theorem Run.faultLane (l : LaneId) (s : State) : Run s (faultLane l s) := by
  unfold Machine.faultLane
  split
  · split
    · have offline : Run s (Machine.laneOffline l (endJobs (s.lane l).unfinishedJobs .faulted s)) :=
        (Run.aside (.endJobs _ _ s)).trans (.laneOffline l _)
      exact (offline.trans (.fullReport _ _ _ _)).trans (.ancillaryReport _ _ _ _)
    · exact .refl
  · exact .refl

/-! ## Frame Out and time -/

theorem Run.acceptWord (s : State) : Run s (acceptWord s) := by
  unfold Machine.acceptWord
  split
  · split
    · exact .aside (.of_frame rfl)
    · have empty : ∀ x, Run s (emptySentOut x s) := by
        intro x
        unfold emptySentOut
        split
        · exact .aside (.setLane _ _ _)
        · exact .refl
      exact (empty _).trans (.aside (.of_frame rfl))
  · exact .refl

/-- What an event does of the running part, it keeps of the part at any time (R196). -/
theorem whenRunning_keeps {s : State} {f : State → State} (h : BlocksAgree s) (k : Keeps s (f s)) :
    Keeps s (whenRunning f s) := by
  unfold whenRunning
  split
  · exact k
  · exact Run.refl.keeps h

theorem tick_keeps {s : State} (h : BlocksAgree s) : Keeps s (tick s) := by
  refine whenRunning_keeps h ?_
  split
  · exact (Run.expireTimer _ s).keeps h
  · exact (Run.countDownAll s).keeps h

end Sys2Proof.Machine
end

section
/-! PROOFS. Commands that are runs of changes keep everything; MODIFY. -/

namespace Sys2Proof.Machine
open Sys2Proof

/-! ## Commands -/

/-- A Start has been taken: the part runs, the Command Unit is IDLE and the copy is held (R154). -/
structure Started (s : State) : Prop where
  running : s.power = .running
  idle : s.unit = .idle
  copied : s.copy.isSome = true

theorem Started.of_run {s t : State} (h : Started s) (r : Run s t) : Started t :=
  ⟨r.apart.power.trans h.running, r.apart.unit.trans h.idle, r.apart.copied h.copied⟩

theorem Run.post {s t : State} {c : CommandCopy} {r : ResultCode} {f : List Byte} (h : Started s) (run : Run s t) :
    Run s (post c r f t) := run.trans (.aside (.post (run.apart.unit.trans h.idle)))

theorem Run.posted {s : State} {c : CommandCopy} {r : ResultCode} {f : List Byte} (h : Started s) :
    Run s (Machine.post c r f s) := .post h .refl

theorem Change.post {s t : State} {c : CommandCopy} {r : ResultCode} {f : List Byte} (h : Started s) (ch : Change s t) :
    Change s (post c r f t) := ch.trans_run (.aside (.post (ch.apart.unit.trans h.idle)))

theorem Keeps.post {s t : State} {c : CommandCopy} {r : ResultCode} {f : List Byte} (k : Keeps s t)
    (h : t.unit = .idle) : Keeps s (post c r f t) := k.trans_aside (.post h)

theorem posted_keeps {s : State} {c : CommandCopy} {r : ResultCode} {f : List Byte} (b : BlocksAgree s) (h : Started s) :
    Keeps s (post c r f s) := (Run.posted h).keeps b

/-- What every command keeps from its Start on, a Start write keeps (R154, R155, R175). -/
theorem writeStart_keeps {s : State} {code : Byte} {run : CommandCopy → State → State} (h : BlocksAgree s)
    (k : ∀ c t, BlocksAgree t → Started t → Keeps t (run c t)) : Keeps s (writeStart code run s) := by
  unfold writeStart
  split
  · exact Run.refl.keeps h
  · rename_i hr
    split
    · exact (Run.aside (.of_frame rfl)).keeps h
    · rename_i hi
      have start : Run s { s with copy := some (copyAtStart code s), commandDone := false } :=
        .aside ⟨rfl, .refl _, fun _ => rfl⟩
      exact start.trans_keeps (fun _ => id) (k _ _ (start.blocks h) ⟨not_not.1 hr, not_not.1 hi, rfl⟩) h

theorem guarded_keeps {s : State} {c : CommandCopy} {report : List Byte} {go : State → State} (b : BlocksAgree s)
    (h : Started s) (k : Keeps s (go s)) : Keeps s (guarded c report go s) := by
  unfold guarded
  split
  · exact posted_keeps b h
  · exact k

theorem onSlot_keeps {s : State} {c : CommandCopy} {go : CommandCopy → SlotNo → State → State} (b : BlocksAgree s)
    (h : Started s) (k : ∀ j, Keeps s (go c j s)) : Keeps s (onSlot go c s) := by
  refine guarded_keeps b h ?_
  split
  · exact posted_keeps b h
  · exact k _

/-! ## Commands that are runs of changes -/

theorem runBadCommand_keeps {s : State} (b : BlocksAgree s) (h : Started s) (c : CommandCopy) :
    Keeps s (runBadCommand c s) := posted_keeps b h

theorem runReadAnchorState_keeps {s : State} (b : BlocksAgree s) (h : Started s) (c : CommandCopy) :
    Keeps s (runReadAnchorState c s) := posted_keeps b h

theorem runReadLocks_keeps {s : State} (b : BlocksAgree s) (h : Started s) (c : CommandCopy) :
    Keeps s (runReadLocks c s) := posted_keeps b h

theorem runReadRecipe_keeps {s : State} (b : BlocksAgree s) (h : Started s) (c : CommandCopy) :
    Keeps s (runReadRecipe c s) := by
  unfold runReadRecipe
  split <;> exact posted_keeps b h

theorem runQueryTag_keeps {s : State} (b : BlocksAgree s) (h : Started s) (c : CommandCopy) :
    Keeps s (runQueryTag c s) := by
  unfold runQueryTag
  split
  · exact posted_keeps b h
  · split <;> exact posted_keeps b h

theorem runQuery_keeps {s : State} (b : BlocksAgree s) (h : Started s) (c : CommandCopy) : Keeps s (runQuery c s) := by
  have check := Run.recordCheck .command none (slotAt c.block 0x00) s
  unfold runQuery querySlot
  split <;> exact (check.post h).keeps b

theorem Run.collectRecord {s : State} (h : Started s) (c : CommandCopy) (k : SlotNo) (r : CondRecord) :
    Run s (collectRecord c k r s) := (Quiet.run (.delete k s)).post h

theorem runCollect_keeps {s : State} (b : BlocksAgree s) (h : Started s) (c : CommandCopy) :
    Keeps s (runCollect c s) := by
  unfold runCollect
  split
  · exact (Run.collectRecord h _ _ _).keeps b
  · exact posted_keeps b h

theorem runCollectNext_keeps {s : State} (b : BlocksAgree s) (h : Started s) (c : CommandCopy) :
    Keeps s (runCollectNext c s) := by
  unfold runCollectNext
  split
  · exact posted_keeps b h
  · split
    · exact (Run.collectRecord h _ _ _).keeps b
    · exact posted_keeps b h

theorem runAbortLanes_keeps {s : State} (b : BlocksAgree s) (h : Started s) (c : CommandCopy) :
    Keeps s (runAbortLanes c s) := by
  have cut : ∀ (ks : List SlotNo) (t : State), Run s t → Run s (ks.foldl (fun s k => applyEnding .cut k s) t) := by
    intro ks
    induction ks with
    | nil => exact fun _ r => r
    | cons k ks ih => exact fun t r => ih _ (r.trans (.ending _ _ _))
  exact ((cut _ _ (.aside (.endJobs _ _ s))).post h).keeps b

theorem runRestoreLane_keeps {s : State} (b : BlocksAgree s) (h : Started s) (c : CommandCopy) :
    Keeps s (runRestoreLane c s) := by
  unfold runRestoreLane
  split
  · exact posted_keeps b h
  · split
    · exact posted_keeps b h
    · exact ((Run.aside (.setLane _ _ _)).post h).keeps b

theorem slotRetirable_iff {s : State} {k : SlotNo} :
    slotRetirable s k = true ↔ ∃ c, s.slot k = some c ∧ c.state.retirable = true := by
  simp [slotRetirable, Option.any_eq_true]

theorem Run.retireChecked {s t : State} (h : Started s) (r : Run s t) (c : CommandCopy) (k : SlotNo) :
    Run s (retireChecked c k t) := by
  unfold Machine.retireChecked
  split
  · rename_i hr
    obtain ⟨x, hx, hs⟩ := slotRetirable_iff.1 hr
    exact (r.trans (Quiet.run (.retire hx hs))).post h
  · exact r.post h

theorem runRetire_keeps {s : State} (b : BlocksAgree s) (h : Started s) (c : CommandCopy) : Keeps s (runRetire c s) := by
  refine onSlot_keeps b h fun k => ?_
  have checked := (Run.retireChecked h (.recordCheck .command none k s) c k).keeps b
  unfold retireNamed
  split
  · exact posted_keeps b h
  · split
    · exact checked
    · exact checked
    · exact checked
    · exact posted_keeps b h
    · exact posted_keeps b h
    · exact posted_keeps b h

theorem runActivate_keeps {s : State} (b : BlocksAgree s) (h : Started s) (c : CommandCopy) :
    Keeps s (runActivate c s) := by
  refine onSlot_keeps b h fun k => ?_
  unfold activateSlot activateDone
  split
  · split <;> exact ((Change.rollOver .command none k s).post h).keeps b
  · exact posted_keeps b h

/-! ## MODIFY -/

/-- The selected settings fields lie in their ranges (Table 8-4). -/
structure SettingChanges.Sound (ch : SettingChanges) : Prop where
  recipes : ∀ r, ch.recipes = some r → r ≠ 0
  ceiling : ∀ m, ch.ceiling = some m → 1 ≤ m.toNat ∧ m.toNat ≤ 2 ^ 48 - 2

theorem recipesAt_ne {b : Block} {off : Nat} {r : BitVec 16} (h : recipesAt b off = some r) : r ≠ 0 := by
  unfold recipesAt at h
  split at h
  · cases h
  · rename_i hn; cases h; exact hn

theorem ceilingAt_range {b : Block} {off : Nat} {m : SeqNo} (h : ceilingAt b off = some m) :
    1 ≤ m.toNat ∧ m.toNat ≤ 2 ^ 48 - 2 := by
  unfold ceilingAt at h
  split at h
  · rename_i hr
    cases h
    have : (wordAt b off 6 48).toNat = fieldAt b off 6 := by
      rw [wordAt, BitVec.toNat_ofNat]; exact Nat.mod_eq_of_lt (by omega)
    rw [this]; exact hr
  · cases h

theorem lifeAt_pos {b : Block} {off : Nat} {m : ByteLife} (h : lifeAt b off = some m) : 1 ≤ m.toNat := by
  unfold lifeAt at h
  split at h
  · cases h
  · rename_i hn
    cases h
    exact Nat.pos_of_ne_zero fun e => hn (BitVec.eq_of_toNat_eq e)

theorem tagAt_ne {b : Block} {off : Nat} {t : Tag} (h : tagAt b off = some t) : t ≠ 0 := by
  unfold tagAt at h
  split at h
  · cases h
  · rename_i hn; cases h; exact hn

/-- A field under its mask bit is what its reader answers (R158). -/
theorem masked_some {α : Type} {bit : Bool} {field : Option α} {x : Option α} (h : masked bit field = some x) {a : α}
    (ha : x = some a) : field = some a := by
  subst ha
  cases bit with
  | false => cases h
  | true =>
    cases field with
    | none => cases h
    | some y => cases h; rfl

theorem changesAt_sound {b : Block} {b0 b1 b2 b3 b4 b5 b6 b7 : Bool} {ch : SettingChanges}
    (h : changesAt b b0 b1 b2 b3 b4 b5 b6 b7 = some ch) : ch.Sound := by
  simp only [changesAt, Option.bind_eq_bind, Option.bind_eq_some_iff, Option.pure_def, Option.some.injEq] at h
  obtain ⟨d, -, r, hr, f, -, m, hm, rfl⟩ := h
  exact ⟨fun x hx => recipesAt_ne (masked_some hr hx), fun x hx => ceilingAt_range (masked_some hm hx)⟩

theorem SettingChanges.Sound.recipes_apply {ch : SettingChanges} (h : ch.Sound) {x : Settings} (hx : x.recipes ≠ 0) :
    (ch.apply x).recipes ≠ 0 := by
  show ch.recipes.getD x.recipes ≠ 0
  cases hr : ch.recipes with
  | none => exact hx
  | some r => exact h.recipes r hr

theorem SettingChanges.Sound.ceiling_apply {ch : SettingChanges} (h : ch.Sound) {x : Settings}
    (hx : 1 ≤ x.ceiling.toNat ∧ x.ceiling.toNat ≤ 2 ^ 48 - 2) :
    1 ≤ (ch.apply x).ceiling.toNat ∧ (ch.apply x).ceiling.toNat ≤ 2 ^ 48 - 2 := by
  show 1 ≤ (ch.ceiling.getD x.ceiling).toNat ∧ (ch.ceiling.getD x.ceiling).toNat ≤ _
  cases hm : ch.ceiling with
  | none => exact hx
  | some m => exact h.ceiling m hm

/-- Settings that fit the record take the place of the others (R170 check 6, R171). -/
theorem Context.Upkeep.applyChanges {c : Context} {ch : SettingChanges} (h : ch.Sound) (fit : changesFit ch c = true) :
    c.Upkeep (applyChanges ch c) := by
  simp only [changesFit, Bool.and_eq_true] at fit
  obtain ⟨mark, ceiling⟩ := fit
  refine .settings c _ fun g => ?_
  obtain ⟨low, high⟩ := h.ceiling_apply ⟨g.ceilingLow, g.ceilingHigh⟩
  refine ⟨h.recipes_apply g.recipesUsed, low, high, ?_, ?_⟩
  · show _ ≤ (ch.ceiling.getD c.settings.ceiling).toNat + 1
    cases hm : ch.ceiling with
    | none => exact g.nextHigh
    | some m => rw [hm] at ceiling; exact of_decide_eq_true ceiling
  · show ch.lowMark.getD c.settings.lowMark ≤ _
    cases hm : ch.lowMark with
    | none => exact g.markHigh
    | some m => rw [hm] at mark; exact of_decide_eq_true mark

theorem Run.budgetTest (ch : SettingChanges) (k : SlotNo) (s : State) : Run s (budgetTest ch k s) := by
  unfold Machine.budgetTest
  split
  · exact .drainEnd _ _ _ _ _
  · exact .refl

theorem Run.modifyChecked {s t : State} (h : Started s) (r : Run s t) (c : CommandCopy) {ch : SettingChanges}
    (hs : ch.Sound) (k : SlotNo) : Run s (modifyChecked c ch k t) := by
  unfold Machine.modifyChecked
  split
  · rename_i x hx
    split
    · split
      · rename_i fit
        have change : Run t (t.updateSlot k (applyChanges ch)) := .updateSlot fun d hd => by
          cases hx.symm.trans hd; exact .applyChanges hs fit
        exact ((r.trans change).trans (.budgetTest ch k _)).post h
      · exact r.post h
    · exact r.post h
  · exact r.post h

theorem runModify_keeps {s : State} (b : BlocksAgree s) (h : Started s) (c : CommandCopy) : Keeps s (runModify c s) := by
  refine guarded_keeps b h ?_
  dsimp only
  split
  · exact posted_keeps b h
  · rename_i ch hch
    split
    · exact posted_keeps b h
    · split
      · exact (Run.modifyChecked h (.recordCheck _ _ _ s) c (changesAt_sound hch) _).keeps b
      · exact posted_keeps b h

end Sys2Proof.Machine
end

section
/-! PROOFS. PURGE, the recipe commands and the lock commands keep everything. -/

namespace Sys2Proof.Machine
open Sys2Proof

/-! ## Commands that change one block -/

/-- A change of contexts and their directory, conditions and unwrap keeps everything else. -/
theorem Keeps.of_contexts {s t : State}
    (frame : t = { s with
      slots := t.slots, dir := t.dir, conds := t.conds, attention := t.attention, unit := t.unit })
    (unit : ∀ a, (t.unit = .programming a ↔ s.unit = .programming a) ∧ (t.unit = .revoking a ↔ s.unit = .revoking a))
    (agrees : Agrees (entriesNaming s) (entriesNamingRecipe s) t)
    (contexts : ContextsSound s → ContextsSound t ∧ Lasts s t) (records : RecordsSound s → RecordsSound t) :
    Keeps s t := by
  have queue : t.queue = s.queue := by rw [frame]
  have anchors : t.anchors = s.anchors := by rw [frame]
  have power : t.power = s.power := by rw [frame]
  have locks : t.locks = s.locks := by rw [frame]
  refine ⟨.of_counts agrees (fun k => ?_) fun i => ?_, contexts, fun g => g.of_recipes (by rw [frame]),
    fun g => g.of_locks locks, .of_locks locks, fun g => ⟨g.of_anchors anchors power unit, .of_anchors anchors⟩, records,
    fun g => g.of_names (queue ▸ .refl _), power, by rw [frame]⟩
  · unfold entriesNaming; rw [queue]
  · unfold entriesNamingRecipe; rw [queue]

/-- A change of recipes, lock ranges and anchors keeps everything else. -/
theorem Keeps.of_stores {s t : State} (b : BlocksAgree s)
    (frame : t = { s with recipes := t.recipes, locks := t.locks, anchors := t.anchors, unit := t.unit })
    (inFlight : ∀ n, (t.recipe n).inFlight = (s.recipe n).inFlight) (unit : UnitMatches t)
    (recipes : RecipesSound s → RecipesSound t) (locks : LocksSound s → LocksSound t) (sticky : StickyRangesStay s t)
    (anchors : AnchorsSound s → AnchorsSound t ∧ SpentAnchorsStay s t) : Keeps s t := by
  have slots : t.slots = s.slots := by rw [frame]
  have queue : t.queue = s.queue := by rw [frame]
  have conds : t.conds = s.conds := by rw [frame]
  have slot := slot_of_slots slots
  have cond := cond_of_conds conds
  have a := blocksAgree_iff.1 b
  refine ⟨.of_counts (n := entriesNaming s) (m := entriesNamingRecipe s) ?_ (fun k => ?_) fun i => ?_,
    fun g => ⟨g.of_slots slots, .of_origin fun k d hd => ?_⟩, recipes, locks, sticky, anchors, fun g => g.of_conds conds,
    fun g => g.of_names (queue ▸ .refl _), by rw [frame], by rw [frame]⟩
  · refine ⟨a.attention.of_isSome (by rw [frame]) fun k => by rw [cond], ?_, fun k c => slot k ▸ a.used k c,
      fun k => slot k ▸ a.free k, fun i => (inFlight i).trans (a.recipes i), fun k c => slot k ▸ a.retiring k c, ?_,
      a.directory.of_kept (.of_slots slots) (by rw [frame]), unit⟩
    · exact a.records.of_imp (fun k => by rw [cond]; exact id) fun k _ => by rw [raisable_of_slot (slot k)]; exact id
    · unfold DirectoryFormed
      rw [show t.dir = s.dir by rw [frame]]
      exact a.formed
  · unfold entriesNaming; rw [queue]
  · unfold entriesNamingRecipe; rw [queue]
  · exact ⟨d, slot k ▸ hd, .refl d, CtxState.mayBecome_of_fall (.inl rfl)⟩

/-- Without an unwrap, before and after, the Command Unit still matches. -/
theorem UnitMatches.of_no_unwrap {s t : State} (h : UnitMatches s) (slots : t.slots = s.slots)
    (hs : ∀ u, s.unit ≠ .unwrapping u) (ht : ∀ u, t.unit ≠ .unwrapping u) (copied : t.copy.isSome = true) :
    UnitMatches t where
  loading := fun k c hc hl => by
    rw [slot_of_slots slots] at hc
    obtain ⟨-, -, -, u, hu, -⟩ := h.loading k c hc hl
    exact absurd hu (hs u)
  unwrapping := fun u hu => absurd hu (ht u)
  copied := fun _ => copied

theorem Started.no_unwrap {s : State} (h : Started s) (u : Unwrap) : s.unit ≠ .unwrapping u := by
  rw [h.idle]; exact UnitState.noConfusion

/-! ## PURGE -/

/-- A slot that goes FREE leaves the others as they were. -/
theorem contexts_of_freed {s t : State} {k : SlotNo} (hs : ∀ j, t.slot j = if k = j then none else s.slot j)
    (h : ContextsSound s) : ContextsSound t ∧ Lasts s t := by
  have old : ∀ j d, t.slot j = some d → s.slot j = some d := by
    intro j d hd
    rw [hs] at hd
    split at hd
    · cases hd
    · exact hd
  exact ⟨fun j d hd => h j d (old j d hd),
    .of_origin fun j d hd => ⟨d, old j d hd, .refl d, CtxState.mayBecome_of_fall (.inl rfl)⟩⟩

theorem purgeSlot_keeps {s : State} (b : BlocksAgree s) {k : SlotNo} {x : Context} (hx : s.slot k = some x)
    (hq : x.state = .quarantined) (h0 : x.inFlight = 0) : Keeps s (purgeSlot k x s) := by
  have a := blocksAgree_iff.1 b
  exact .of_contexts (by rw [purgeSlot, freeSlot_frame, unbind_frame]) (fun _ => ⟨.rfl, .rfl⟩)
    (a.unbind_free hx (by rw [hq]; exact CtxState.noConfusion) (a.used k x hx ▸ h0))
    (contexts_of_freed fun j => freeSlot_slot k j _) fun g => (g.of_conds (t := unbind x.tag k s) rfl).free k

theorem runPurge_keeps {s : State} (b : BlocksAgree s) (h : Started s) (c : CommandCopy) : Keeps s (runPurge c s) := by
  refine onSlot_keeps b h fun k => ?_
  unfold purgeNamed
  split
  · rename_i x hx
    split
    · rename_i hq
      split
      · rename_i hp
        exact (purgeSlot_keeps b hx hq hp.2).post h.idle
      · exact posted_keeps b h
    · exact posted_keeps b h
  · exact posted_keeps b h

/-! ## The recipe commands -/

/-- HEADER and TAG steps have their fixed lengths, whatever the field holds (R52). -/
theorem stepOf_formed {t : TagLen} {kind : Byte} {len : Nat} {st : Step} (h : stepOf t kind len = some st) :
    (st.kind = .header → st.len = .fixed 10) ∧ (st.kind = .tag → st.len = .fixed (tagLenNat t)) := by
  simp only [stepOf, Option.bind_eq_bind, Option.bind_eq_some_iff, Option.pure_def] at h
  obtain ⟨k, -, h⟩ := h
  have other : ∀ {k : StepKind}, k ≠ .header → k ≠ .tag →
      (if len = 0xFFFF then some ⟨k, .rest⟩ else if 1 ≤ len ∧ len ≤ 2048 then some ⟨k, .fixed len⟩ else none) =
        some st → (st.kind = .header → st.len = .fixed 10) ∧ (st.kind = .tag → st.len = .fixed (tagLenNat t)) := by
    intro k hh ht e
    have hk : st.kind = k := by
      split at e
      · cases e; rfl
      · split at e
        · cases e; rfl
        · cases e
    exact ⟨fun g => absurd (hk.symm.trans g) hh, fun g => absurd (hk.symm.trans g) ht⟩
  cases k with
  | header => cases h; exact ⟨fun _ => rfl, fun e => StepKind.noConfusion e⟩
  | tag => cases h; exact ⟨fun e => StepKind.noConfusion e, fun _ => rfl⟩
  | clear => exact other StepKind.noConfusion StepKind.noConfusion h
  | cipher => exact other StepKind.noConfusion StepKind.noConfusion h
  | skip => exact other StepKind.noConfusion StepKind.noConfusion h
  | strip => exact other StepKind.noConfusion StepKind.noConfusion h

theorem mem_of_mapM {α β : Type} {f : α → Option β} {l : List α} {ys : List β} (h : l.mapM f = some ys) {y : β}
    (hy : y ∈ ys) : ∃ x, f x = some y := by
  induction l generalizing ys with
  | nil => simp at h; subst h; cases hy
  | cons x l ih =>
    simp only [List.mapM_cons, Option.bind_eq_bind, Option.bind_eq_some_iff, Option.pure_def, Option.some.injEq] at h
    obtain ⟨z, hz, zs, hzs, rfl⟩ := h
    rcases List.mem_cons.1 hy with rfl | hy
    · exact ⟨x, hz⟩
    · exact ih hzs hy

/-- A definition that passes the checks of WRITE_RECIPE is sound (R59). -/
theorem checkRecipe_sound {b : Block} {s : State} {n : RecipeNo} {d : RecipeDef} (h : checkRecipe b s = .ok (n, d)) :
    d.sound = true ∧ d.Formed ∧ 16 ≤ d.maxInput ∧ d.maxInput ≤ 2048 := by
  unfold checkRecipe at h
  split at h
  · rename_i i t m hi ht hm
    split at h
    · split at h
      · rename_i steps hsteps
        split at h
        · rename_i hsound
          split at h
          · cases h
            refine ⟨hsound, fun st hst => ?_, ?_⟩
            · obtain ⟨i, hi⟩ := mem_of_mapM hsteps hst
              exact stepOf_formed hi
            · unfold maxInputAt at hm
              split at hm
              · rename_i hr; cases hm; exact hr
              · cases hm
          · cases h
        · cases h
      · cases h
    · cases h
  · cases h

/-- A recipe takes a definition, sound if it is one, or loses it (R67, R68). -/
theorem setRecipe_keeps {s : State} (b : BlocksAgree s) (h : Started s) (n : RecipeNo) (x : Option RecipeDef)
    (hx : ∀ d, x = some d → d.sound = true ∧ d.Formed ∧ 16 ≤ d.maxInput ∧ d.maxInput ≤ 2048) :
    Keeps s (s.setRecipe n { s.recipe n with defn := x }) := by
  have recipe := fun i => recipe_setRecipe s n i { s.recipe n with defn := x }
  refine .of_stores b rfl (fun i => ?_) (b.unit.of_no_unwrap rfl h.no_unwrap h.no_unwrap h.copied) (fun g i d hd => ?_)
    (fun g => g.of_locks rfl) (.of_locks rfl)
    fun g => ⟨g.of_anchors rfl rfl fun _ => ⟨.rfl, .rfl⟩, .of_anchors rfl⟩
  · rw [recipe]
    split
    · rename_i e; rw [← e]
    · rfl
  · rw [recipe] at hd
    split at hd
    · exact hx d hd
    · exact g i d hd

theorem runWriteRecipe_keeps {s : State} (b : BlocksAgree s) (h : Started s) (c : CommandCopy) :
    Keeps s (runWriteRecipe c s) := by
  refine guarded_keeps b h ?_
  dsimp only
  split
  · rename_i n d hd
    refine (setRecipe_keeps b h n (some d) fun e he => ?_).post h.idle
    cases he
    exact checkRecipe_sound hd
  · exact posted_keeps b h

theorem runClearRecipe_keeps {s : State} (b : BlocksAgree s) (h : Started s) (c : CommandCopy) :
    Keeps s (runClearRecipe c s) := by
  refine guarded_keeps b h ?_
  dsimp only
  split
  · split
    · exact (setRecipe_keeps b h _ none fun e he => nomatch he).post h.idle
    · exact posted_keeps b h
  · exact posted_keeps b h

/-! ## The lock commands -/

theorem lockRangeAt_sound {b : Block} {r : LockRange} (h : lockRangeAt b = some r) : r.low ≠ 0 ∧ r.low ≤ r.high := by
  unfold lockRangeAt at h
  split at h
  · rename_i sticky low high _ hlow _
    split at h
    · rename_i hle; cases h; exact ⟨tagAt_ne hlow, hle⟩
    · cases h
  · cases h

/-- A range that is not sticky is set or cleared (R185, R186). -/
theorem setLockRange_keeps {s : State} (b : BlocksAgree s) (h : Started s) {n : RangeNo} (hn : stickyRange s n ≠ true)
    (x : Option LockRange) (hx : ∀ r, x = some r → r.low ≠ 0 ∧ r.low ≤ r.high) : Keeps s (s.setLockRange n x) := by
  have range := fun i => lockRange_setLockRange s n i x
  refine .of_stores b rfl (fun _ => rfl) (b.unit.of_no_unwrap rfl h.no_unwrap h.no_unwrap h.copied)
    (fun g => g.of_recipes rfl) (fun g i r hr => ?_) (fun i r hr hst => ?_)
    fun g => ⟨g.of_anchors rfl rfl fun _ => ⟨.rfl, .rfl⟩, .of_anchors rfl⟩
  · rw [range] at hr
    split at hr
    · exact hx r hr
    · exact g i r hr
  · rw [range, if_neg, hr]
    rintro rfl
    exact hn (by rw [stickyRange, hr]; exact hst)

theorem runSetLock_keeps {s : State} (b : BlocksAgree s) (h : Started s) (c : CommandCopy) :
    Keeps s (runSetLock c s) := by
  refine guarded_keeps b h ?_
  split
  · rename_i n r _ hr
    split
    · exact posted_keeps b h
    · rename_i hn
      refine (setLockRange_keeps b h hn (some r) fun e he => ?_).post h.idle
      cases he
      exact lockRangeAt_sound hr
  · exact posted_keeps b h

theorem runClearLock_keeps {s : State} (b : BlocksAgree s) (h : Started s) (c : CommandCopy) :
    Keeps s (runClearLock c s) := by
  refine guarded_keeps b h ?_
  split
  · split
    · exact posted_keeps b h
    · rename_i hn
      exact (setLockRange_keeps b h hn none fun e he => nomatch he).post h.idle
  · exact posted_keeps b h

end Sys2Proof.Machine
end

section
/-! PROOFS. The anchor commands keep everything. -/

namespace Sys2Proof.Machine
open Sys2Proof

/-! ## The anchor commands -/

/-- The Command Unit in execution of the command that opens a write (R157, R179, R181). -/
def AnchorWrite.unit : AnchorWrite → AnchorNo → UnitState
  | .programming, a => .programming a
  | .revoking, a => .revoking a

theorem AnchorWrite.unit_inj {v w : AnchorWrite} {a b : AnchorNo} : v.unit a = w.unit b ↔ v = w ∧ a = b := by
  cases v <;> cases w <;> simp [AnchorWrite.unit]

theorem AnchorWrite.unit_ne_idle (w : AnchorWrite) (a : AnchorNo) : w.unit a ≠ .idle := by
  cases w <;> exact UnitState.noConfusion

theorem AnchorWrite.unit_ne_unwrapping (w : AnchorWrite) (a : AnchorNo) (u : Unwrap) : w.unit a ≠ .unwrapping u := by
  cases w <;> exact UnitState.noConfusion

theorem AnchorsSound.writes {s : State} (h : AnchorsSound s) (hr : s.power = .running) (w : AnchorWrite) (a : AnchorNo) :
    (s.anchor a).openWrite = some w ↔ s.unit = w.unit a := by
  cases w with
  | programming => exact h.programming hr a
  | revoking => exact h.revoking hr a

theorem AnchorsSound.of_writes {s : State} (each : ∀ a, (s.anchor a).Sound)
    (writes : s.power = .running → ∀ w a, (s.anchor a).openWrite = some w ↔ s.unit = AnchorWrite.unit w a) :
    AnchorsSound s := ⟨each, fun hr => writes hr .programming, fun hr => writes hr .revoking⟩

/-- A write is opened on an anchor that is neither REVOKED nor DEFECTIVE (R179, R181). -/
theorem openAnchor_keeps {s : State} (b : BlocksAgree s) (h : Started s) {a : AnchorNo} {w : AnchorWrite}
    (sound : (s.anchor a).Sound → ({ s.anchor a with openWrite := some w } : Anchor).Sound)
    (fresh : ¬((s.anchor a).state = .revoked ∨ (s.anchor a).state = .defective)) :
    Keeps s { openAnchor a w s with unit := w.unit a } := by
  set t : State := { openAnchor a w s with unit := w.unit a }
  have anchor : ∀ i, t.anchor i = if a = i then { s.anchor a with openWrite := some w } else s.anchor i :=
    fun i => anchor_setAnchor s a i _
  refine .of_stores b rfl (fun _ => rfl) (b.unit.of_no_unwrap rfl h.no_unwrap (w.unit_ne_unwrapping a) h.copied)
    (fun g => g.of_recipes rfl) (fun g => g.of_locks rfl) (.of_locks rfl) fun g => ⟨.of_writes (fun i => ?_) ?_, ?_⟩
  · rw [anchor]
    split
    · exact sound (g.each a)
    · exact g.each i
  · intro _ v i
    rw [anchor]
    show _ ↔ w.unit a = v.unit i
    rw [AnchorWrite.unit_inj]
    split
    · rename_i e; simp [e]
    · rename_i e
      rw [g.writes h.running, h.idle]
      simp [(v.unit_ne_idle i).symm, e]
  · intro i hi
    rw [anchor, if_neg]
    rintro rfl
    exact fresh hi

/-- The write in execution is closed on its anchor, which was neither REVOKED nor DEFECTIVE (R180, R181). -/
theorem closeAnchor_keeps {s : State} (b : BlocksAgree s) (hr : s.power = .running) {a : AnchorNo} {w : AnchorWrite}
    (hu : s.unit = w.unit a) {x : AnchorState} {key : Option AnchorKey} (sound : (⟨x, key, none⟩ : Anchor).Sound) :
    Keeps s { closeAnchor a x key s with unit := .idle } := by
  set t : State := { closeAnchor a x key s with unit := .idle }
  have anchor : ∀ i, t.anchor i = if a = i then ⟨x, key, none⟩ else s.anchor i := fun i => anchor_setAnchor s a i _
  refine .of_stores b rfl (fun _ => rfl) (b.unit.of_no_unwrap rfl (hu ▸ w.unit_ne_unwrapping a)
    (fun _ => UnitState.noConfusion) (b.unit.copied (hu ▸ w.unit_ne_idle a))) (fun g => g.of_recipes rfl)
    (fun g => g.of_locks rfl) (.of_locks rfl) fun g => ⟨.of_writes (fun i => ?_) ?_, ?_⟩
  · rw [anchor]
    split
    · exact sound
    · exact g.each i
  · intro _ v i
    rw [anchor]
    show _ ↔ UnitState.idle = v.unit i
    simp only [(v.unit_ne_idle i).symm, iff_false]
    split
    · exact fun e => nomatch e
    · rename_i e
      rw [g.writes hr, hu, AnchorWrite.unit_inj]
      exact fun h => e h.2
  · intro i hi
    rw [anchor, if_neg]
    rintro rfl
    have hs := g.each a
    have hw := (g.writes hr w a).2 hu
    unfold Anchor.Sound at hs
    rcases hi with e | e <;> simp [e, hw] at hs

theorem runProgramAnchor_keeps {s : State} (b : BlocksAgree s) (h : Started s) (c : CommandCopy) :
    Keeps s (runProgramAnchor c s) := by
  refine guarded_keeps b h ?_
  split
  · exact posted_keeps b h
  · rename_i a _
    split
    · exact posted_keeps b h
    · unfold programStart
      split
      · rename_i hs
        refine openAnchor_keeps b h (w := .programming) (fun g => ?_) (by simp [hs])
        unfold Anchor.Sound at g ⊢
        simp only [hs] at g ⊢
        exact ⟨g.1, by simp⟩
      · exact posted_keeps b h

theorem runRevokeAnchor_keeps {s : State} (b : BlocksAgree s) (h : Started s) (c : CommandCopy) :
    Keeps s (runRevokeAnchor c s) := by
  refine guarded_keeps b h ?_
  split
  · exact posted_keeps b h
  · rename_i a _
    unfold revokeStart
    split
    · rename_i hs
      refine openAnchor_keeps b h (w := .revoking) (fun g => ?_) (by simp [hs])
      unfold Anchor.Sound at g ⊢
      simp only [hs] at g ⊢
      exact ⟨g.1, by simp⟩
    · exact posted_keeps b h

theorem completeProgram_keeps {s : State} (b : BlocksAgree s) (hr : s.power = .running) (readBack : Option AnchorKey) :
    Keeps s (completeProgram readBack s) := by
  unfold completeProgram
  split
  · rename_i a c hu _
    unfold finishProgram
    split
    · exact (closeAnchor_keeps b hr (w := .programming) hu (x := .programmed) ⟨rfl, by simp⟩).trans_aside
        ⟨rfl, .refl _, fun _ => rfl⟩
    · exact (closeAnchor_keeps b hr (w := .programming) hu (x := .defective) rfl).trans_aside
        ⟨rfl, .refl _, fun _ => rfl⟩
  · exact Run.refl.keeps b

theorem completeRevoke_keeps {s : State} (b : BlocksAgree s) (hr : s.power = .running) (readBack : AnchorState) :
    Keeps s (completeRevoke readBack s) := by
  unfold completeRevoke
  split
  · rename_i a c hu _
    unfold finishRevoke
    split
    · exact (closeAnchor_keeps b hr (w := .revoking) hu (x := .revoked) ⟨rfl, rfl⟩).trans_aside (.of_frame rfl)
    · exact (closeAnchor_keeps b hr (w := .revoking) hu (x := .defective) rfl).trans_aside (.of_frame rfl)
  · exact Run.refl.keeps b

end Sys2Proof.Machine
end

section
/-! PROOFS. INSTALL, SUCCEED and the completion of their unwrap keep everything. -/

namespace Sys2Proof.Machine
open Sys2Proof

/-! ## INSTALL, SUCCEED and the completion of their unwrap -/

/-- The fields an install gives its slot lie in their ranges (Table 8-4). -/
structure NewContext.Sound (n : NewContext) : Prop where
  tagUsed : n.tag ≠ 0
  recipesUsed : n.settings.recipes ≠ 0
  ceiling : 1 ≤ n.settings.ceiling.toNat ∧ n.settings.ceiling.toNat ≤ 2 ^ 48 - 2
  lifeUsed : 1 ≤ n.life.toNat
  markHigh : n.settings.lowMark ≤ n.life

theorem NewContext.Sound.loading {n : NewContext} (h : n.Sound) : n.loading.Sound :=
  ⟨h.tagUsed, h.recipesUsed, h.ceiling.1, h.ceiling.2, Nat.le_refl 1, Nat.le_add_left _ _, h.lifeUsed, BitVec.le_refl _,
    h.markHigh, rfl, fun e => Bool.noConfusion e⟩

theorem firstFree_free {s : State} {k : SlotNo} (h : firstFree s = some k) : s.slot k = none := by
  have := List.find?_some h
  simpa using this

/-- A FREE slot enters LOADING: the blocks still agree (R3, R163). -/
theorem Agrees.startUnwrap {n : SlotNo → Nat} {m : RecipeNo → Nat} {s : State} (h : Agrees n m s) (st : Started s)
    {k : SlotNo} (hk : s.slot k = none) {x : NewContext} (hx : x.tag ≠ 0) (standby : Bool) (key : AnchorKey)
    (named : Option SlotNo) : Agrees n m (startUnwrap x standby key named k s) := by
  have slot : ∀ j, (Machine.startUnwrap x standby key named k s).slot j =
      if k = j then some x.loading else s.slot j := fun j => slot_setSlot s k j _
  have no_loading : ∀ j c, s.slot j = some c → c.state ≠ .loading := by
    intro j c hc hl
    obtain ⟨-, -, -, u, hu, -⟩ := h.unit.loading j c hc hl
    exact st.no_unwrap u hu
  refine ⟨h.attention.of_isSome rfl fun _ => rfl, ?_, ?_, ?_, h.recipes, ?_, h.formed, ?_, ?_⟩
  · refine h.records.of_imp (fun _ => id) fun j _ hr => ?_
    rw [raisable_of_slot (s := s)]
    · exact hr
    · rw [slot, if_neg]
      rintro rfl
      simp [raisable, hk] at hr
  · intro j c hc
    rw [slot] at hc
    split at hc
    · rename_i e; cases hc; exact (e ▸ h.free k hk).symm
    · exact h.used j c hc
  · intro j hj
    rw [slot] at hj
    split at hj
    · cases hj
    · exact h.free j hj
  · intro j c hc hs
    rw [slot] at hc
    split at hc
    · cases hc; cases hs
    · exact h.retiring j c hc hs
  · refine h.directory.of_unbound (k := k) rfl (fun t p hb => ?_) (fun j hj => by rw [slot, if_neg (Ne.symm hj)])
      fun d p hd => ?_
    · obtain ⟨c, hc, -⟩ := h.directory.bound t k p hb
      rw [hk] at hc; cases hc
    · rw [slot, if_pos rfl] at hd
      cases hd
      cases p <;> exact CtxState.noConfusion
  · refine ⟨fun j c hc hl => ?_, fun u hu => ?_, fun _ => st.copied⟩
    · rw [slot] at hc
      split at hc
      · rename_i e; cases hc; exact ⟨hx, rfl, rfl, _, rfl, e⟩
      · exact absurd hl (no_loading j c hc)
    · cases hu
      exact slotIs_iff.2 ⟨x.loading, by rw [slot, if_pos rfl], rfl⟩

theorem startUnwrap_keeps {s : State} (b : BlocksAgree s) (h : Started s) {k : SlotNo} (hk : s.slot k = none)
    {x : NewContext} (ht : x.tag ≠ 0) (hx : ContextsSound s → x.Sound) (standby : Bool) (key : AnchorKey)
    (named : Option SlotNo) : Keeps s (startUnwrap x standby key named k s) := by
  have slot : ∀ j, (startUnwrap x standby key named k s).slot j =
      if k = j then some x.loading else s.slot j := fun j => slot_setSlot s k j _
  refine .of_contexts rfl (fun a => by rw [h.idle]; simp [startUnwrap])
    ((blocksAgree_iff.1 b).startUnwrap h hk ht standby key named) (fun g => ⟨fun j d hd => ?_, fun j c d hc hd => ?_⟩)
    (fun g => g.of_conds rfl)
  · rw [slot] at hd
    split at hd
    · cases hd; exact (hx g).loading
    · exact g j d hd
  · rw [slot] at hd
    split at hd
    · rename_i e; rw [← e, hk] at hc; cases hc
    · cases hc.symm.trans hd; exact ⟨.refl c, CtxState.mayBecome_of_fall (.inl rfl)⟩

theorem takeSlot_keeps {s : State} (b : BlocksAgree s) (h : Started s) (c : CommandCopy) (report : List Byte)
    {x : NewContext} (ht : x.tag ≠ 0) (hx : ContextsSound s → x.Sound) (standby : Bool) (key : AnchorKey)
    (named : Option SlotNo) : Keeps s (takeSlot c report x standby key named s) := by
  unfold takeSlot
  split
  · exact posted_keeps b h
  · rename_i k hk
    exact startUnwrap_keeps b h (firstFree_free hk) ht hx standby key named

theorem settingsAt_ranges {b : Block} {x : Settings} (h : settingsAt b = some x) :
    x.recipes ≠ 0 ∧ 1 ≤ x.ceiling.toNat ∧ x.ceiling.toNat ≤ 2 ^ 48 - 2 := by
  simp only [settingsAt, Option.bind_eq_bind, Option.bind_eq_some_iff, Option.pure_def, Option.some.injEq] at h
  obtain ⟨_, -, _, -, r, hr, m, hm, rfl⟩ := h
  exact ⟨recipesAt_ne hr, ceilingAt_range hm⟩

/-- The fields of an INSTALL in range (R162 check 2). -/
theorem installAt_sound {b : Block} {n : NewContext} {standby : Bool} (h : installAt b = some (n, standby)) : n.Sound := by
  simp only [installAt, Option.bind_eq_bind, Option.bind_eq_some_iff, Option.pure_def] at h
  obtain ⟨t, ht, _, -, _, -, _, -, x, hx, l, hl, h⟩ := h
  split at h
  · rename_i hm
    cases h
    obtain ⟨hr, hc⟩ := settingsAt_ranges hx
    exact ⟨tagAt_ne ht, hr, hc, lifeAt_pos hl, hm⟩
  · cases h

theorem runInstall_keeps {s : State} (b : BlocksAgree s) (h : Started s) (c : CommandCopy) :
    Keeps s (runInstall c s) := by
  refine guarded_keeps b h ?_
  split
  · exact posted_keeps b h
  · rename_i n standby hn
    have sound := installAt_sound hn
    unfold installChecked
    split
    · exact posted_keeps b h
    · split
      · exact posted_keeps b h
      · split
        · exact posted_keeps b h
        · exact takeSlot_keeps b h c _ sound.tagUsed (fun _ => sound) standby _ none

/-- The override fields lie in their ranges (R166 check 2). -/
theorem overridesAt_sound {b : Block} {o : Overrides} (h : overridesAt b = some o) :
    o.settings.Sound ∧ ∀ l, o.life = some l → 1 ≤ l.toNat := by
  simp only [overridesAt, Option.bind_eq_bind, Option.bind_eq_some_iff, Option.pure_def, Option.some.injEq] at h
  obtain ⟨_, -, _, -, l, hl, x, hx, rfl⟩ := h
  exact ⟨changesAt_sound hx, fun m hm => lifeAt_pos (masked_some hl hm)⟩

/-- The next generation of a sound context is sound if its low-life mark is not above its byte life (R166 check 5). -/
theorem successor_sound {b : Block} {o : Overrides} (ho : overridesAt b = some o) {x : Context} (hx : x.Sound)
    (hm : (successor b o x).settings.lowMark ≤ (successor b o x).life) : (successor b o x).Sound := by
  obtain ⟨settings, life⟩ := overridesAt_sound ho
  refine ⟨hx.tagUsed, settings.recipes_apply hx.recipesUsed, settings.ceiling_apply ⟨hx.ceilingLow, hx.ceilingHigh⟩, ?_,
    hm⟩
  show 1 ≤ (o.life.getD x.lifeInstalled).toNat
  cases hl : o.life with
  | none => exact hx.lifeUsed
  | some l => exact life l hl

theorem succeedActive_keeps {s : State} (b : BlocksAgree s) (h : Started s) (c : CommandCopy) {o : Overrides}
    (ho : overridesAt c.block = some o) (k : SlotNo) : Keeps s (succeedActive c o k s) := by
  unfold succeedActive
  split
  · rename_i x hx
    split
    · rename_i hs
      have used : x.tag ≠ 0 := b.formed.tag_used (b.directory.listed k x .active hx hs)
      unfold succeedFrom
      dsimp only
      split
      · rename_i hm
        split
        · exact posted_keeps b h
        · split
          · exact posted_keeps b h
          · exact takeSlot_keeps b h c [] used (fun g => successor_sound ho (g k x hx) hm) true _ (some k)
      · exact posted_keeps b h
    · exact posted_keeps b h
  · exact posted_keeps b h

theorem recordCheck_free {p : CondPhase} {q : Option SeqNo} {k j : SlotNo} {s : State}
    (h : (recordCheck p q k s).slot j = none) : s.slot j = none := by
  rcases recordCheck_slot p q k j s with e | e
  · rw [← e, h]
  · rw [h] at e; exact Option.map_eq_none_iff.1 e.symm

theorem runSucceed_keeps {s : State} (b : BlocksAgree s) (h : Started s) (c : CommandCopy) :
    Keeps s (runSucceed c s) := by
  refine guarded_keeps b h ?_
  split
  · exact posted_keeps b h
  · rename_i o ho
    split
    · exact posted_keeps b h
    · split
      · have check := Run.recordCheck .command none (slotAt c.block 0x00) s
        exact check.trans_keeps (fun _ => recordCheck_free)
          (succeedActive_keeps (check.blocks b) (h.of_run check) c ho _) b
      · exact posted_keeps b h

/-! ## The completion of the unwrap -/

/-- A LOADING slot whose unwrap is under way: what holds of its record (R3, R163). -/
structure Unwrapping (s : State) (u : Unwrap) (x : Context) : Prop where
  unit : s.unit = .unwrapping u
  slot : s.slot u.slot = some x
  loading : x.state = .loading

theorem Unwrapping.unbound {s : State} {u : Unwrap} {x : Context} (h : Unwrapping s u x) (b : BlocksAgree s) (t : Tag)
    (p : Place) : (u.slot, p) ∉ (s.entry t).bound :=
  b.directory.unbound_of_state h.slot (by rw [h.loading]; intro p; cases p <;> exact CtxState.noConfusion)
    (by rw [h.loading]; exact CtxState.noConfusion) t p

/-- With its slot out of LOADING, a finished unwrap leaves the Command Unit to match. -/
theorem Unwrapping.unit_matches {s t : State} {u : Unwrap} {x : Context} (h : Unwrapping s u x) (b : BlocksAgree s)
    (others : ∀ j ≠ u.slot, t.slot j = s.slot j) (done : ∀ c, t.slot u.slot = some c → c.state ≠ .loading)
    (idle : t.unit = .idle) : UnitMatches t where
  loading := fun k c hc hl => by
    by_cases hk : k = u.slot
    · subst hk; exact absurd hl (done c hc)
    · rw [others k hk] at hc
      obtain ⟨-, -, -, v, hv, hs⟩ := b.unit.loading k c hc hl
      cases h.unit.symm.trans hv
      exact absurd hs.symm hk
  unwrapping := fun v hv => by rw [idle] at hv; cases hv
  copied := fun hn => absurd idle hn

/-- The unwrap fails, or its tag conflicts: the slot is freed (R164 outcomes 1 and 2). -/
theorem unwrap_freed_keeps {s : State} (b : BlocksAgree s) {u : Unwrap} {x : Context} (h : Unwrapping s u x) :
    Keeps s { freeSlot u.slot s with unit := .idle } := by
  set t : State := { freeSlot u.slot s with unit := .idle }
  have slot : ∀ j, t.slot j = if u.slot = j then none else s.slot j := fun j => freeSlot_slot u.slot j s
  have others : ∀ j ≠ u.slot, t.slot j = s.slot j := fun j hj => by rw [slot, if_neg (Ne.symm hj)]
  have gone : t.slot u.slot = none := by rw [slot, if_pos rfl]
  have a := blocksAgree_iff.1 b
  have none_naming : entriesNaming s u.slot = 0 := by
    rw [← a.used _ x h.slot]
    exact (a.unit.loading _ x h.slot h.loading).2.2.1
  refine .of_contexts rfl (fun a => by rw [h.unit]; simp [t]) ?_ (contexts_of_freed slot) fun g =>
    (g.free u.slot).of_conds rfl
  refine a.freed none_naming (fun _ _ => rfl) a.recipes rfl a.formed ?_
    (h.unit_matches b others (fun c hc => by rw [gone] at hc; cases hc) rfl)
  exact a.directory.of_unbound rfl (h.unbound b) others fun d p hd => by rw [gone] at hd; cases hd

/-- The record of a slot bound at the end of its unwrap (R31, R164). -/
def boundContext (key : ContextKey) (standby : Bool) (x : Context) : Context :=
  { writeKey key x with state := if standby then .standby else .active }

/-- The place a slot is bound in. -/
def rolePlace (standby : Bool) : Place := if standby then .standby else .active

theorem boundContext_state (key : ContextKey) (standby : Bool) (x : Context) :
    (boundContext key standby x).state = (rolePlace standby).state := by cases standby <;> rfl

theorem admits_of_admissionTest {s : State} {t : Tag} {standby m : Bool} (h : admissionTest s t standby m = none) :
    Admits s t standby m := by
  have of_if : ∀ {c : Prop} [Decidable c] {r : ResultCode} {o : Option ResultCode},
      (if c then some r else o) = none → ¬c ∧ o = none := by
    intro c _ r o e
    split at e
    · cases e
    · rename_i hc; exact ⟨hc, e⟩
  obtain ⟨room, h⟩ := of_if h
  obtain ⟨place, h⟩ := of_if h
  obtain ⟨marker, -⟩ := of_if h
  refine ⟨Nat.lt_of_not_le room, Option.not_isSome_iff_eq_none.1 place, fun b hb e => marker ?_⟩
  exact List.any_eq_true.2 ⟨b, hb, by rw [e]; exact beq_self_eq_true _⟩

theorem DirEntry.mem_bound_withRole {e : DirEntry} {standby : Bool} {k j : SlotNo} {p : Place}
    (h : (if standby then e.standby else e.active) = none) :
    (j, p) ∈ (e.withRole standby k).bound ↔ (j, p) ∈ e.bound ∨ j = k ∧ p = rolePlace standby := by
  cases standby <;> cases p <;> simp_all [DirEntry.mem_bound, DirEntry.slotIn, DirEntry.withRole, rolePlace, eq_comm]

theorem DirEntry.bound_withRole_length {e : DirEntry} {standby : Bool} (k : SlotNo)
    (h : (if standby then e.standby else e.active) = none) :
    (e.withRole standby k).bound.length = e.bound.length + 1 := by
  cases standby with
  | false => simp_all [DirEntry.bound, DirEntry.withRole]
  | true => simp_all [DirEntry.bound, DirEntry.withRole, Nat.add_assoc]

/-- A slot bound in a place that is admitted leaves its tag to match (R30, R31). -/
theorem TagMatches.bind {s t : State} {y : Tag} {standby : Bool} {k : SlotNo} {d : Context} (h : TagMatches s y)
    (adm : Admits s y standby d.marker) (unbound : ∀ p, (k, p) ∉ (s.entry y).bound)
    (entry : t.entry y = (s.entry y).withRole standby k)
    (slot : ∀ j, t.slot j = if k = j then some d else s.slot j) (tag : d.tag = y)
    (state : d.state = (rolePlace standby).state) : TagMatches t y := by
  have mem : ∀ {j : SlotNo} {p : Place}, (j, p) ∈ (t.entry y).bound ↔
      (j, p) ∈ (s.entry y).bound ∨ j = k ∧ p = rolePlace standby := by
    intro j p; rw [entry]; exact DirEntry.mem_bound_withRole adm.place
  have new : t.slot k = some d := by rw [slot, if_pos rfl]
  have old : ∀ {j p}, (j, p) ∈ (s.entry y).bound → t.slot j = s.slot j := by
    intro j p hb
    rw [slot, if_neg]
    rintro rfl
    exact unbound p hb
  have marker_new : slotMarker t k = some d.marker := by rw [slotMarker, new]; rfl
  have marker_old : ∀ {j p}, (j, p) ∈ (s.entry y).bound → slotMarker t j ≠ some d.marker ∧
      slotMarker t j = slotMarker s j := by
    intro j p hb
    have e : slotMarker t j = slotMarker s j := by rw [slotMarker, slotMarker, old hb]
    exact ⟨e ▸ adm.marker _ hb, e⟩
  constructor
  · intro j p hb
    rcases mem.1 hb with hb | ⟨rfl, rfl⟩
    · rw [old hb]; exact h.bound j p hb
    · exact ⟨d, new, tag, .inl state⟩
  · intro j c p hc ht hp
    rw [slot] at hc
    split at hc
    · rename_i e
      cases hc
      refine mem.2 (.inr ⟨e.symm, ?_⟩)
      rw [state] at hp
      revert hp
      generalize rolePlace standby = q
      cases q <;> cases p <;> simp [Place.state]
    · exact mem.2 (.inl (h.listed j c p hc ht hp))
  · rw [entry, DirEntry.bound_withRole_length k adm.place]
    exact adm.room
  · intro j p q hp hq
    rcases mem.1 hp with hp | ⟨rfl, rfl⟩ <;> rcases mem.1 hq with hq | ⟨e, rfl⟩
    · exact h.onePlace j p q hp hq
    · exact absurd (e ▸ hp) (unbound p)
    · exact absurd hq (unbound q)
    · rfl
  · intro i j p q hi hj e
    rcases mem.1 hi with hi | ⟨rfl, rfl⟩ <;> rcases mem.1 hj with hj | ⟨rfl, rfl⟩
    · exact h.markers i j p q hi hj (by rw [← (marker_old hi).2, ← (marker_old hj).2, e])
    · exact absurd (e.trans marker_new) (marker_old hi).1
    · exact absurd (e.symm.trans marker_new) (marker_old hj).1
    · rfl

/-- The unwrap succeeds and its slot is bound (R164 outcome 3). -/
theorem unwrap_bound_keeps {s : State} (b : BlocksAgree s) {u : Unwrap} {x : Context} (h : Unwrapping s u x)
    (key : ContextKey) (adm : Admits s x.tag u.standby x.marker) :
    Keeps s { bindSlot x.tag u.standby u.slot (s.updateSlot u.slot (writeKey key)) with unit := .idle } := by
  set d := boundContext key u.standby x with hd
  set t : State := { bindSlot x.tag u.standby u.slot (s.updateSlot u.slot (writeKey key)) with unit := .idle }
  have slot : ∀ j, t.slot j = if u.slot = j then some d else s.slot j := by
    intro j
    show (State.updateSlot _ _ _).slot j = _
    rw [slot_updateSlot, slot_updateSlot, if_pos rfl, slot_updateSlot, h.slot]
    split <;> rfl
  have others : ∀ j ≠ u.slot, t.slot j = s.slot j := fun j hj => by rw [slot, if_neg (Ne.symm hj)]
  have new : t.slot u.slot = some d := by rw [slot, if_pos rfl]
  have state : d.state = (rolePlace u.standby).state := boundContext_state key u.standby x
  have not_loading : d.state ≠ .loading := by
    rw [state]; cases u.standby <;> exact CtxState.noConfusion
  have entry : ∀ y, t.entry y = if y = x.tag then (s.entry x.tag).withRole u.standby u.slot else s.entry y := fun y =>
    entry_setEntry (s.updateSlot u.slot (writeKey key) |>.updateSlot u.slot _) x.tag y _ b.formed.1
  have a := blocksAgree_iff.1 b
  obtain ⟨used, -, zero, -⟩ := a.unit.loading _ x h.slot h.loading
  refine .of_contexts rfl (fun a => by rw [h.unit]; simp [t]) ?_ (fun g => ⟨fun j c hc => ?_, fun j c e hc he => ?_⟩)
    fun g => g.of_conds rfl
  · refine ⟨a.attention.of_isSome rfl fun _ => rfl, a.records.of_imp (fun _ => id) fun j _ hr => ?_, fun j c hc => ?_,
      fun j hj => ?_, a.recipes, fun j c hc hs => ?_, ?_, ?_,
      h.unit_matches b others (fun c hc => by cases new.symm.trans hc; exact not_loading) rfl⟩
    · obtain ⟨c, hc, hl⟩ := raisable_iff.1 hr
      refine raisable_iff.2 ⟨c, ?_, hl⟩
      rw [others, hc]
      rintro rfl
      cases h.slot.symm.trans hc
      exact hl h.loading
    · rw [slot] at hc
      split at hc
      · rename_i e; cases hc; exact e ▸ a.used _ x h.slot
      · exact a.used j c hc
    · rw [slot] at hj
      split at hj
      · cases hj
      · exact a.free j hj
    · rw [slot] at hc
      split at hc
      · cases hc
        rw [state] at hs
        cases hu : u.standby <;> rw [hu] at hs <;> cases hs
      · exact a.retiring j c hc hs
    · have formed : DirectoryFormed ((s.updateSlot u.slot (writeKey key)).updateSlot u.slot
          fun c => { c with state := if u.standby then .standby else .active }) := a.formed
      exact formed.setEntry (.inl used)
    · refine a.directory.update x.tag (fun y hy => by rw [entry, if_neg hy]) (fun j c hc => ?_)
        ((directoryMatches_iff.1 a.directory x.tag).bind (d := d) adm (h.unbound b x.tag) (by rw [entry, if_pos rfl])
          slot rfl state)
      rw [slot]
      split
      · rename_i e
        rw [← e, h.slot]
        constructor <;> intro g <;> cases g <;> exact absurd rfl hc
      · exact .rfl
  · rw [slot] at hc
    split at hc
    · cases hc
      have gx := g _ x h.slot
      refine ⟨gx.tagUsed, gx.recipesUsed, gx.ceilingLow, gx.ceilingHigh, gx.nextLow, gx.nextHigh, gx.lifeUsed,
        gx.lifeHigh, gx.markHigh, ?_, fun r => ?_⟩
      · rw [state]; cases u.standby <;> rfl
      · have := gx.timerDraining r
        rw [h.loading] at this; cases this
    · exact g j c hc
  · rw [slot] at he
    split at he
    · rename_i e'
      subst e'
      cases he
      cases h.slot.symm.trans hc
      refine ⟨⟨rfl, rfl, rfl, rfl, rfl, rfl, BitVec.le_refl _, BitVec.le_refl _, BitVec.le_refl _, id, id⟩, ?_⟩
      rw [state, h.loading]; cases u.standby <;> rfl
    · cases hc.symm.trans he
      exact ⟨.refl c, CtxState.mayBecome_of_fall (.inl rfl)⟩

theorem slotMarker_writeKey (s : State) (k j : SlotNo) (key : ContextKey) :
    slotMarker (s.updateSlot k (writeKey key)) j = slotMarker s j := by
  unfold slotMarker
  rw [slot_updateSlot]
  split
  · rename_i e; rw [← e]; cases s.slot k <;> rfl
  · rfl

/-- The completion of an unwrap keeps everything (R164). -/
theorem completeUnwrap_keeps {s : State} (b : BlocksAgree s) : Keeps s (completeUnwrap s) := by
  unfold completeUnwrap
  split
  · rename_i u c hu _
    split
    · rename_i x hx
      obtain ⟨y, hy, hl⟩ := slotIs_iff.1 (b.unit.unwrapping u hu)
      cases hx.symm.trans hy
      have h : Unwrapping s u x := ⟨hu, hx, hl⟩
      unfold finishUnwrap
      split
      · exact (unwrap_freed_keeps b h).trans_aside (.of_frame rfl)
      · rename_i key _
        unfold recheckAndBind
        split
        · rw [show s.updateSlot u.slot (writeKey key) = s.setSlot u.slot (some (writeKey key x)) from
            updateSlot_of_some hx, freeSlot_setSlot]
          exact (unwrap_freed_keeps b h).trans_aside (.of_frame rfl)
        · rename_i ht
          have adm := admits_of_admissionTest ht
          refine (unwrap_bound_keeps b h key ⟨adm.room, adm.place, fun j hj => ?_⟩).trans_aside (.of_frame rfl)
          rw [← slotMarker_writeKey s u.slot j.1 key]
          exact adm.marker j hj
    · exact Run.refl.keeps b
  · exact Run.refl.keeps b

end Sys2Proof.Machine
end

section
/-! PROOFS. SOFT_RESET and every byte written to Start keep everything. -/

namespace Sys2Proof.Machine
open Sys2Proof

/-! ## SOFT_RESET -/

/-- The Context Table, the Attention Unit, the queue and the counts after a soft reset, before FRAMES_LOST is raised. -/
def softResetBlocks (s : State) : State := softResetFrames (softResetSlots s)

theorem softResetBlocks_slot (s : State) (k : SlotNo) :
    (softResetBlocks s).slot k = (s.slot k).bind Context.afterSoftReset := by
  simp [softResetBlocks, softResetFrames, softResetSlots, State.slot]

theorem softResetBlocks_cond (s : State) (k : SlotNo) :
    (softResetBlocks s).cond k = if s.slotIs k .retiring then none else s.cond k := by
  simp [softResetBlocks, softResetFrames, softResetSlots, State.cond]

theorem softResetBlocks_recipe (s : State) (i : RecipeNo) :
    (softResetBlocks s).recipe i = { s.recipe i with inFlight := 0 } := by
  simp [softResetBlocks, softResetFrames, softResetSlots, State.recipe]

/-- A slot in use after a soft reset was in use, not RETIRING, and has no frame in flight (R25). -/
theorem softResetBlocks_slot_some {s : State} {k : SlotNo} {d : Context} (h : (softResetBlocks s).slot k = some d) :
    ∃ c, s.slot k = some c ∧ c.state ≠ .retiring ∧ d = c.withFrames 0 := by
  rw [softResetBlocks_slot] at h
  obtain ⟨c, hc, hd⟩ := Option.bind_eq_some_iff.1 h
  unfold Context.afterSoftReset at hd
  split at hd
  · cases hd
  · rename_i hr
    cases hd
    exact ⟨c, hc, hr, rfl⟩

theorem softResetBlocks_slot_kept {s : State} {k : SlotNo} {c : Context} (hc : s.slot k = some c)
    (hr : c.state ≠ .retiring) : (softResetBlocks s).slot k = some (c.withFrames 0) := by
  rw [softResetBlocks_slot, hc]
  exact if_neg hr

theorem softResetBlocks_agrees {s : State} (b : BlocksAgree s) (h : Started s) :
    Agrees (fun _ => 0) (fun _ => 0) (softResetBlocks s) := by
  have a := blocksAgree_iff.1 b
  refine ⟨⟨a.attention.1.filter _, fun k => ?_⟩, fun k hk => ?_, fun k d hd => ?_, fun _ _ => rfl, fun i => ?_,
    fun k d hd hs => ?_, a.formed, ?_, ?_⟩
  · show k ∈ s.attention.filter _ ↔ _
    rw [List.mem_filter, a.attention.2 k, softResetBlocks_cond]
    cases s.slotIs k .retiring <;> simp
  · rw [softResetBlocks_cond] at hk
    split at hk
    · cases hk
    · rename_i hr
      obtain ⟨c, hc, hl⟩ := raisable_iff.1 (a.records k hk)
      have kept : c.state ≠ .retiring := fun e => hr (slotIs_iff.2 ⟨c, hc, e⟩)
      exact raisable_iff.2 ⟨_, softResetBlocks_slot_kept hc kept, hl⟩
  · obtain ⟨c, -, -, rfl⟩ := softResetBlocks_slot_some hd
    rfl
  · rw [softResetBlocks_recipe]
  · obtain ⟨c, -, hr, rfl⟩ := softResetBlocks_slot_some hd
    exact absurd hs hr
  · refine a.directory.of_bound rfl (fun x k p hb => ?_) fun k d p hd _ => ?_
    · obtain ⟨c, hc, -, hs⟩ := a.directory.bound x k p hb
      have kept : c.state ≠ .retiring := by
        rcases hs with e | e <;> rw [e]
        · cases p <;> exact CtxState.noConfusion
        · exact CtxState.noConfusion
      rw [softResetBlocks_slot_kept hc kept, hc]
      exact .some ⟨rfl, rfl, .inl rfl⟩
    · obtain ⟨c, hc, -, rfl⟩ := softResetBlocks_slot_some hd
      exact ⟨c, hc, rfl, rfl, .inl rfl⟩
  · refine ⟨fun k d hd hl => ?_, fun u hu => absurd hu (h.no_unwrap u), fun _ => h.copied⟩
    obtain ⟨c, hc, -, rfl⟩ := softResetBlocks_slot_some hd
    obtain ⟨-, -, -, u, hu, -⟩ := a.unit.loading k c hc hl
    exact absurd hu (h.no_unwrap u)

theorem softResetBlocks_keeps {s : State} (b : BlocksAgree s) (h : Started s) : Keeps s (softResetBlocks s) where
  blocks := .of_counts (softResetBlocks_agrees b h) (fun _ => rfl) fun _ => rfl
  contexts := fun g => by
    refine ⟨fun k d hd => ?_, .of_origin fun k d hd => ?_⟩
    · obtain ⟨c, hc, -, rfl⟩ := softResetBlocks_slot_some hd
      exact (g k c hc).withFrames 0
    · obtain ⟨c, hc, -, rfl⟩ := softResetBlocks_slot_some hd
      exact ⟨c, hc, .withFrames c 0, CtxState.mayBecome_of_fall (.inl rfl)⟩
  recipes := fun g => g.of_defn fun i => by rw [softResetBlocks_recipe]
  locks := fun g => g.of_locks rfl
  sticky := .of_locks rfl
  anchors := fun g => ⟨g.of_anchors rfl rfl fun _ => ⟨.rfl, .rfl⟩, .of_anchors rfl⟩
  records := fun g => g.of_cond fun k r hr => by
    rw [softResetBlocks_cond] at hr
    split at hr
    · cases hr
    · exact .inl hr
  queue := fun _ => Nat.zero_le 8
  power := rfl
  port := rfl

theorem framesLost_slots (s : State) (k : SlotNo) : (framesLost s k).slots = s.slots :=
  raiseOn_slots _ k s

/-- Raising FRAMES_LOST is a run that leaves the Context Table (R152). -/
theorem Run.framesLost (ks : List SlotNo) (s : State) :
    Run s (ks.foldl framesLost s) ∧ (ks.foldl framesLost s).slots = s.slots := by
  induction ks generalizing s with
  | nil => exact ⟨.refl, rfl⟩
  | cons k ks ih =>
    obtain ⟨r, e⟩ := ih (Machine.framesLost s k)
    exact ⟨((Run.raise _ _ _).trans (.ending _ _ _)).trans r, e.trans (framesLost_slots s k)⟩

theorem runSoftReset_keeps {s : State} (b : BlocksAgree s) (h : Started s) (c : CommandCopy) :
    Keeps s (runSoftReset c s) := by
  obtain ⟨lost, slots⟩ := Run.framesLost (lostSlots s.queue (softResetSlots s)) (softResetBlocks s)
  exact ((softResetBlocks_keeps b h).trans_run lost slots).post (lost.apart.unit.trans h.idle)

/-! ## Every command -/

/-- The command that a byte written to Start names keeps everything (Table 10-8). -/
theorem runOf_keeps {s : State} (b : BlocksAgree s) (h : Started s) (code : Byte) (c : CommandCopy) :
    Keeps s (runOf code c s) := by
  have pick : ∀ {x : Byte} {f g : CommandCopy → State → State}, Keeps s (f c s) → Keeps s (g c s) →
      Keeps s ((if code = x then f else g) c s) := by
    intro x f g hf hg
    split
    · exact hf
    · exact hg
  exact pick (runInstall_keeps b h c) <| pick (runSucceed_keeps b h c) <| pick (runActivate_keeps b h c) <|
    pick (runRetire_keeps b h c) <| pick (runModify_keeps b h c) <| pick (runPurge_keeps b h c) <|
    pick (runQuery_keeps b h c) <| pick (runQueryTag_keeps b h c) <| pick (runSoftReset_keeps b h c) <|
    pick (runWriteRecipe_keeps b h c) <| pick (runClearRecipe_keeps b h c) <| pick (runReadRecipe_keeps b h c) <|
    pick (runAbortLanes_keeps b h c) <| pick (runRestoreLane_keeps b h c) <| pick (runCollect_keeps b h c) <|
    pick (runCollectNext_keeps b h c) <| pick (runProgramAnchor_keeps b h c) <| pick (runRevokeAnchor_keeps b h c) <|
    pick (runReadAnchorState_keeps b h c) <| pick (runSetLock_keeps b h c) <| pick (runClearLock_keeps b h c) <|
    pick (runReadLocks_keeps b h c) (runBadCommand_keeps b h c)

theorem startByte_keeps {s : State} (b : BlocksAgree s) (code : Byte) : Keeps s (startByte code s) :=
  writeStart_keeps b fun c _ bt ht => runOf_keeps bt ht code c

/-- A byte written to a location of the Register Window keeps everything (R190). -/
theorem writeWindow_keeps {s : State} (b : BlocksAgree s) (addr x : Byte) : Keeps s (writeWindow addr x s) := by
  unfold writeWindow
  split
  · exact (Run.aside (.of_frame rfl)).keeps b
  · split
    · exact (Run.aside (.of_frame rfl)).keeps b
    · split
      · exact startByte_keeps b x
      · split
        · exact (Run.aside (.of_frame rfl)).keeps b
        · exact Run.refl.keeps b

/-- Damage before an event that keeps everything keeps it too. -/
theorem damage_trans_keeps {s t : State} (b : BlocksAgree s) (ds : List Damage)
    (k : BlocksAgree (damage ds s) → Keeps (damage ds s) t) : Keeps s t :=
  (Run.damage ds s).trans_keeps (fun j => (damage_free ds s j).1) (k ((Run.damage ds s).blocks b)) b

/-- A command whose Start meets damage at its reads (assumption 3). -/
theorem damaged_start_keeps {s : State} (b : BlocksAgree s) (code : Byte) (ds : List Damage)
    {run : CommandCopy → State → State} (k : ∀ c t, BlocksAgree t → Started t → Keeps t (run c t)) :
    Keeps s (writeStart code (fun c s => run c (damage ds s)) s) :=
  writeStart_keeps b fun c t bt ht => damage_trans_keeps bt ds fun b' => k c _ b' (ht.of_run (.damage ds t))

end Sys2Proof.Machine
end

section
/-! PROOFS. What a step preserves. -/

namespace Sys2Proof.Machine
open Sys2Proof

/-! ## Steps -/

/-- Everything that the statements about every step say of one step. -/
structure Preserves (s t : State) : Prop where
  blocks : BlocksAgree t
  contexts : ContextsSound s → ContextsSound t ∧ Lasts s t
  recipes : RecipesSound s → RecipesSound t
  locks : LocksSound s → LocksSound t
  sticky : t.power = .running → StickyRangesStay s t
  anchors : AnchorsSound s → HeldInReset s → AnchorsSound t
  spent : AnchorsSound s → SpentAnchorsStay s t
  records : RecordsSound s → RecordsSound t
  queue : QueueFits s → QueueFits t
  held : HeldInReset s → HeldInReset t
  port : s.port.Sound → t.port.Sound

theorem Keeps.preserves {s t : State} (k : Keeps s t) (held : s.power ≠ .running → t = s) : Preserves s t where
  blocks := k.blocks
  contexts := k.contexts
  recipes := k.recipes
  locks := k.locks
  sticky := fun _ => k.sticky
  anchors := fun g _ => (k.anchors g).1
  spent := fun g => (k.anchors g).2
  records := k.records
  queue := k.queue
  held := fun g hp => by rw [held (k.power ▸ hp)]; exact g (k.power ▸ hp)
  port := by rw [k.port]; exact id

theorem Keeps.preserves_running {s t : State} (k : Keeps s t) (hr : s.power = .running) : Preserves s t :=
  k.preserves fun hn => absurd hr hn

/-- Blocks that are the same agree, whatever else differs. -/
theorem BlocksAgree.of_same {s t : State} (b : BlocksAgree s) (slots : t.slots = s.slots)
    (attention : t.attention = s.attention) (conds : t.conds = s.conds) (dir : t.dir = s.dir)
    (recipes : t.recipes = s.recipes) (unit : t.unit = s.unit) (copy : t.copy = s.copy) (queue : t.queue = s.queue) :
    BlocksAgree t := by
  refine .of_counts ((blocksAgree_iff.1 b).of_kept (.of_slots slots) attention
    (fun k => by rw [cond_of_conds conds]) dir recipes unit (by rw [copy]; exact id)) (fun k => ?_) fun i => ?_
  · unfold entriesNaming; rw [queue]
  · unfold entriesNamingRecipe; rw [queue]

theorem Lasts.of_slots {s t : State} (e : t.slots = s.slots) : Lasts s t := .of_origin fun k d hd =>
  ⟨d, by rw [← slot_of_slots e]; exact hd, .refl d, CtxState.mayBecome_of_fall (.inl rfl)⟩

/-- A change at the lines, the port or the queues outside the part. -/
theorem preserves_of_lines {s t : State} (b : BlocksAgree s)
    (frame : t = { s with
      lockLine := t.lockLine, rstLine := t.rstLine, port := t.port, serial := t.serial, pending := t.pending })
    (port : s.port.Sound → t.port.Sound)
    (held : s.power ≠ .running → s.port.abandoned = s.port → t.port.abandoned = t.port) : Preserves s t := by
  have slots : t.slots = s.slots := by rw [frame]
  have anchors : t.anchors = s.anchors := by rw [frame]
  have locks : t.locks = s.locks := by rw [frame]
  have power : t.power = s.power := by rw [frame]
  have unit : t.unit = s.unit := by rw [frame]
  refine ⟨b.of_same slots (by rw [frame]) (by rw [frame]) (by rw [frame]) (by rw [frame]) unit (by rw [frame])
      (by rw [frame]), fun g => ⟨g.of_slots slots, .of_slots slots⟩, fun g => g.of_recipes (by rw [frame]),
    fun g => g.of_locks locks, fun _ => .of_locks locks,
    fun g _ => g.of_anchors anchors power fun _ => by rw [unit]; exact ⟨.rfl, .rfl⟩, fun _ => .of_anchors anchors,
    fun g => g.of_conds (by rw [frame]), fun g => ?_, fun g hp => ?_, port⟩
  · unfold QueueFits
    rw [frame]
    exact g
  · rw [power] at hp
    obtain ⟨h1, h2⟩ := g hp
    refine ⟨held hp h1, ?_⟩
    rw [frame, h2]

/-- An event that is taken while the part runs alone. -/
theorem whenRunning_preserves {s : State} {f : State → State} (b : BlocksAgree s)
    (k : s.power = .running → Preserves s (f s)) : Preserves s (whenRunning f s) := by
  unfold whenRunning
  split
  · rename_i hr; exact k hr
  · exact preserves_of_lines b rfl id fun _ => id

/-- The queues outside the part play no role in what a step preserves. -/
theorem Preserves.of_waiting {s t : State} {serial : List SerialEvent} {pending : List Instr} (b : BlocksAgree s)
    (h : BlocksAgree { s with serial := serial, pending := pending } →
      Preserves { s with serial := serial, pending := pending } t) : Preserves s t := by
  have same : Preserves s { s with serial := serial, pending := pending } :=
    preserves_of_lines b rfl id fun _ => id
  have g := h same.blocks
  exact ⟨g.blocks, g.contexts, g.recipes, g.locks, g.sticky, fun a r => g.anchors (same.anchors a r) (same.held r),
    fun a => g.spent (a.of_anchors rfl rfl fun _ => ⟨.rfl, .rfl⟩), g.records, g.queue, g.held ∘ same.held, g.port⟩

end Sys2Proof.Machine
end

section
/-! PROOFS. Resets, the serial line and every step; the statements about every step. -/

namespace Sys2Proof.Machine
open Sys2Proof

/-! ## The part right after reset -/

@[simp] theorem slot_reset (k : SlotNo) : State.reset.slot k = none := by simp [State.reset, State.slot]
@[simp] theorem cond_reset (k : SlotNo) : State.reset.cond k = none := by simp [State.reset, State.cond]
@[simp] theorem entry_reset (t : Tag) : State.reset.entry t = DirEntry.empty := rfl
@[simp] theorem recipe_reset (n : RecipeNo) : State.reset.recipe n = Recipe.initial := by simp [State.reset, State.recipe]
@[simp] theorem lockRange_reset (n : RangeNo) : State.reset.lockRange n = none := by simp [State.reset, State.lockRange]
@[simp] theorem anchor_reset (a : AnchorNo) : State.reset.anchor a = Anchor.delivered := by
  simp [State.reset, State.anchor]

theorem blocksAgree_reset : BlocksAgree State.reset := by
  have unbound : ∀ {t : Tag} {b : SlotNo × Place}, b ∉ (State.reset.entry t).bound := DirEntry.mem_bound_empty _
  refine ⟨⟨List.nodup_nil, fun k => ?_⟩, fun k hk => ?_, ⟨fun k c hc => ?_, fun _ _ => rfl, fun n => ?_, fun k c hc => ?_⟩,
    ⟨List.Pairwise.nil, fun p hp => ?_⟩, ⟨fun _ _ _ hb => absurd hb unbound, fun k c p hc => ?_, fun _ => Nat.zero_le 2,
      fun _ _ _ _ hb => absurd hb unbound, fun _ _ _ _ _ hb => absurd hb unbound⟩,
    ⟨fun k c hc => ?_, fun u hu => ?_, fun hu => ?_⟩⟩
  · rw [cond_reset]; exact ⟨fun h => (List.not_mem_nil h).elim, fun h => Bool.noConfusion h⟩
  · rw [cond_reset] at hk; cases hk
  · rw [slot_reset] at hc; cases hc
  · rw [recipe_reset]; rfl
  · rw [slot_reset] at hc; cases hc
  · cases hp
  · rw [slot_reset] at hc; cases hc
  · rw [slot_reset] at hc; cases hc
  · cases hu
  · exact absurd rfl hu

theorem framesMatch_reset : FramesMatch State.reset := by
  have lane : ∀ l, State.reset.lane l = Lane.initial := fun l => by cases l <;> rfl
  constructor
  · exact ⟨List.nodup_nil, fun i hi => (List.not_mem_nil hi).elim⟩
  · intro l f hf; rw [lane] at hf; cases hf
  · intro l f hf; rw [lane] at hf; cases hf
  · intro l f g hf; rw [lane] at hf; cases hf
  · intro l f hf; rw [lane] at hf; cases hf
  · intro e he; cases he
  · intro e he; cases he
  · intro x l hx; cases hx
  · intro j l n hi; cases hi
  · intro l f hf; rw [lane] at hf; cases hf
  · intro l hl; rw [lane] at hl; cases hl

/-! ## Resets, power and start-up -/

/-- What a hard reset leaves of a part that does not run after it (R26, R176, R196). -/
theorem hardReset_preserves (s : State) (rst : Bool) {p : Power} (hp : p ≠ .running) :
    Preserves s { hardReset s with rstLine := rst, power := p } := by
  set t : State := { hardReset s with rstLine := rst, power := p }
  have slot : ∀ k, t.slot k = none := slot_reset
  refine ⟨blocksAgree_reset.of_same rfl rfl rfl rfl rfl rfl rfl rfl, fun _ => ⟨fun k c hc => ?_, fun k c d _ hd => ?_⟩,
    fun _ n d hd => ?_, fun _ n r hr => ?_, fun g => absurd g hp, fun g _ => ⟨g.each, fun g => absurd g hp,
      fun g => absurd g hp⟩, fun _ => .of_anchors rfl, fun _ k r hr => ?_, fun _ => Nat.zero_le 8, fun _ _ => ⟨?_, rfl⟩,
    fun _ => ?_⟩
  · rw [slot] at hc; cases hc
  · rw [slot] at hd; cases hd
  · rw [show t.recipe n = Recipe.initial from recipe_reset n] at hd; cases hd
  · rw [show t.lockRange n = none from lockRange_reset n] at hr; cases hr
  · rw [show t.cond k = none from cond_reset k] at hr; cases hr
  · show s.port.abandoned.abandoned = s.port.abandoned
    cases s.port <;> rfl
  · show s.port.abandoned.Sound
    cases s.port <;> exact trivial

theorem assertRst_preserves {s : State} (b : BlocksAgree s) : Preserves s (assertRst s) := by
  unfold assertRst
  split
  · exact preserves_of_lines b rfl id fun _ => id
  · exact hardReset_preserves s true Power.noConfusion

theorem powerOn_preserves {s : State} (b : BlocksAgree s) : Preserves s (powerOn s) := by
  unfold powerOn
  split
  · exact hardReset_preserves s s.rstLine Power.noConfusion
  · exact preserves_of_lines b rfl id fun _ => id

theorem powerLoss_preserves (s : State) : Preserves s (powerLoss s) :=
  hardReset_preserves s s.rstLine Power.noConfusion

theorem anchor_scanAnchors (s : State) (a : AnchorNo) : (scanAnchors s).anchor a = scanAnchor (s.anchor a) := by
  simp [scanAnchors, State.anchor]

theorem scanAnchor_closed (x : Anchor) : (scanAnchor x).openWrite = none := by
  unfold scanAnchor
  split
  · rfl
  · rfl
  · assumption

theorem scanAnchor_sound {x : Anchor} (h : x.Sound) : (scanAnchor x).Sound := by
  obtain ⟨state, key, openWrite⟩ := x
  cases openWrite with
  | none => exact h
  | some w =>
    cases w with
    | programming => rfl
    | revoking => cases state <;> simp_all [Anchor.Sound, scanAnchor]

/-- A REVOKED or DEFECTIVE anchor has no open write: the scan leaves it (R182). -/
theorem scanAnchor_spent {x : Anchor} (h : x.Sound) (hs : x.state = .revoked ∨ x.state = .defective) :
    scanAnchor x = x := by
  have closed : x.openWrite = none := by
    unfold Anchor.Sound at h
    rcases hs with e | e <;> rw [e] at h
    · exact h.2
    · exact h
  simp [scanAnchor, closed]

/-- At the end of start-up the writes that stood open are closed, and no command is in execution (R182, R196). -/
theorem endStartup_preserves {s : State} (b : BlocksAgree s) : Preserves s (endStartup s) := by
  unfold endStartup
  split
  · rename_i hs
    have starting : s.power ≠ .running := by rw [hs.1]; exact Power.noConfusion
    set t : State := { scanAnchors s with power := .running }
    have anchor : ∀ a, t.anchor a = scanAnchor (s.anchor a) := anchor_scanAnchors s
    refine ⟨b.of_same rfl rfl rfl rfl rfl rfl rfl rfl, fun g => ⟨g.of_slots rfl, .of_slots rfl⟩, fun g => g.of_recipes rfl,
      fun g => g.of_locks rfl, fun _ => .of_locks rfl, fun g r => .of_writes (fun a => ?_) fun _ w a => ?_,
      fun g a ha => ?_, fun g => g.of_conds rfl, id, fun _ hp => absurd rfl hp, id⟩
    · rw [anchor]; exact scanAnchor_sound (g.each a)
    · have idle : t.unit = .idle := by
        show s.unit = .idle
        rw [(r starting).2]; rfl
      rw [anchor, scanAnchor_closed, idle]
      simp [(w.unit_ne_idle a).symm]
    · rw [anchor]; exact scanAnchor_spent (g.each a) ha
  · exact preserves_of_lines b rfl id fun _ => id

/-! ## The serial line -/

/-- Another state of the port after an event of the running part (R189). -/
theorem Keeps.preserves_port {s t : State} (k : Keeps s t) (hr : s.power = .running) {p : Port} (hp : p.Sound) :
    Preserves s { t with port := p } where
  blocks := k.blocks.of_same rfl rfl rfl rfl rfl rfl rfl rfl
  contexts := k.contexts
  recipes := k.recipes
  locks := k.locks
  sticky := fun _ => k.sticky
  anchors := fun g _ => (k.anchors g).1.of_anchors rfl rfl fun _ => ⟨.rfl, .rfl⟩
  spent := fun g => (k.anchors g).2
  records := k.records
  queue := k.queue
  held := fun _ hn => absurd (k.power.trans hr) hn
  port := fun _ => hp

theorem port_preserves {s : State} (b : BlocksAgree s) (hr : s.power = .running) {p : Port} (hp : p.Sound) :
    Preserves s { s with port := p } := (Run.refl.keeps b).preserves_port hr hp

/-- A received bit (R189). -/
theorem receive_preserves {s : State} (b : BlocksAgree s) (hr : s.power = .running) (bits : List Bool) (sdi : Bool)
    {partialByte : List Bool → Port} {whole : Byte → State → State}
    (hp : ∀ bits : List Bool, bits.length ≤ 7 → (partialByte bits).Sound) (hw : ∀ x, Preserves s (whole x s)) :
    Preserves s (receive bits sdi partialByte whole s) := by
  unfold receive
  split
  · rename_i hl
    refine port_preserves b hr (hp _ ?_)
    rw [List.length_append]
    exact hl
  · exact hw _

theorem afterInstruction_sound (x : Byte) : (afterInstruction x).Sound := by
  unfold afterInstruction
  split
  · exact Nat.zero_le 7
  · split
    · exact Nat.zero_le 7
    · trivial

theorem afterAddress_sound (read : Bool) (x : Byte) (s : State) : (afterAddress read x s).Sound := by
  cases read with
  | true => exact ⟨Nat.zero_le 7, fun h => Bool.noConfusion h⟩
  | false => exact Nat.zero_le 7

theorem riseSck_preserves {s : State} (b : BlocksAgree s) (hr : s.power = .running) (sdi : Bool) :
    Preserves s (riseSck sdi s) := by
  have same : Preserves s s := preserves_of_lines b rfl id fun _ => id
  unfold riseSck
  split
  · exact receive_preserves b hr _ sdi (fun _ => id) fun x => port_preserves b hr (afterInstruction_sound x)
  · exact receive_preserves b hr _ sdi (fun _ => id) fun x => port_preserves b hr (afterAddress_sound _ x s)
  · exact receive_preserves b hr _ sdi (fun _ => id) fun x => (writeWindow_keeps b _ x).preserves_port hr (Nat.zero_le 7)
  · exact same
  · exact same
  · exact same

theorem Reading.drive_sound {r : Reading} (s : State) (h : (Port.reading r).Sound) :
    (Port.reading (r.drive s)).Sound := by
  obtain ⟨shift, low⟩ := h
  unfold Reading.drive
  split
  · rename_i rest e
    rw [e, List.length_cons] at shift
    exact ⟨Nat.le_of_succ_le shift, low⟩
  · refine ⟨Nat.le_refl 7, fun g => ?_⟩
    dsimp only at g ⊢
    split at g
    · rename_i e; rw [e]; rfl
    · cases g

theorem fallSck_preserves {s : State} (b : BlocksAgree s) (hr : s.power = .running) : Preserves s (fallSck s) := by
  unfold fallSck
  split
  · rename_i r hp
    exact preserves_of_lines b rfl (fun g => Reading.drive_sound s (hp ▸ g)) fun hn => absurd hr hn
  all_goals exact preserves_of_lines b rfl id fun _ => id

theorem fallCs_preserves {s : State} (b : BlocksAgree s) : Preserves s (fallCs s) := by
  unfold fallCs
  split
  · refine preserves_of_lines b rfl (fun _ => ?_) fun hn _ => ?_
    · dsimp only
      split
      · exact Nat.zero_le 7
      · trivial
    · dsimp only
      rw [if_neg hn]; rfl
  all_goals exact preserves_of_lines b rfl id fun _ => id

/-- An event of the serial line (R189). -/
theorem serialEvent_preserves {s : State} (b : BlocksAgree s) (e : SerialEvent) : Preserves s (serialEvent e s) := by
  cases e with
  | csFall => exact fallCs_preserves b
  | csRise => exact preserves_of_lines b rfl (fun _ => trivial) fun _ _ => rfl
  | sckRise sdi => exact whenRunning_preserves b fun hr => riseSck_preserves b hr sdi
  | sckFall => exact whenRunning_preserves b fun hr => fallSck_preserves b hr

/-! ## The commands of the table -/

theorem writeStart_preserves {s : State} {code : Byte} {run : CommandCopy → State → State}
    (k : Keeps s (writeStart code run s)) : Preserves s (writeStart code run s) := k.preserves fun hn => writeStart_not hn

/-- Every command preserves what the statements about every step say. -/
theorem exec_preserves {s t : State} (b : BlocksAgree s) (i : Instr) (h : exec i s = .next t) : Preserves s t := by
  have run : ∀ {f : State → State}, Run s (f s) → Preserves s (whenRunning f s) := fun r =>
    whenRunning_preserves b fun hr => (r.keeps b).preserves_running hr
  have event : ∀ {f : State → State}, (s.power = .running → Keeps s (f s)) → Preserves s (whenRunning f s) := fun k =>
    whenRunning_preserves b fun hr => (k hr).preserves_running hr
  have start : ∀ {code : Byte} {f : CommandCopy → State → State},
      (∀ c t, BlocksAgree t → Started t → Keeps t (f c t)) → Preserves s (writeStart code f s) := fun k =>
    writeStart_preserves (writeStart_keeps b k)
  have damaged : ∀ {code : Byte} {ds : List Damage} {f : CommandCopy → State → State},
      (∀ c t, BlocksAgree t → Started t → Keeps t (f c t)) →
        Preserves s (writeStart code (fun c s => f c (damage ds s)) s) := fun k =>
    writeStart_preserves (damaged_start_keeps b _ _ k)
  cases i with
  | jobFirstWord w => cases h; exact event fun _ => frameInWord_keeps b [] w
  | jobHeader w atLookup atRoll =>
    cases h; exact event fun _ => damage_trans_keeps b atLookup fun b => frameInWord_keeps b atRoll w
  | frameWord w => cases h; exact event fun _ => frameInWord_keeps b [] w
  | discardWord w => cases h; exact event fun _ => frameInWord_keeps b [] w
  | stageToWork l => cases h; exact run (.moveToWork l s)
  | keyFetch l => cases h; exact run (.fetchKey l s)
  | header l => cases h; exact run (.headerPhase l s)
  | body l => cases h; exact run (.bodyPhase l s)
  | tag l => cases h; exact run (.tagPhase l s)
  | workToOut l => cases h; exact run (.moveToOut l s)
  | laneFault l => cases h; exact run (.faultLane l s)
  | release atRead atRoll => cases h; exact event fun _ => releaseHead_keeps b atRead atRoll
  | resultWord => cases h; exact run (.acceptWord s)
  | drainTimerExpiry k => cases h; exact run (.expireTimer k s)
  | install => cases h; exact start fun c _ b h => runInstall_keeps b h c
  | succeed found => cases h; exact damaged fun c _ b h => runSucceed_keeps b h c
  | unwrapCompletion => cases h; exact event fun _ => completeUnwrap_keeps b
  | activate found => cases h; exact damaged fun c _ b h => runActivate_keeps b h c
  | retire found => cases h; exact damaged fun c _ b h => runRetire_keeps b h c
  | modify found => cases h; exact damaged fun c _ b h => runModify_keeps b h c
  | purge => cases h; exact start fun c _ b h => runPurge_keeps b h c
  | query found => cases h; exact damaged fun c _ b h => runQuery_keeps b h c
  | queryTag => cases h; exact start fun c _ b h => runQueryTag_keeps b h c
  | softReset => cases h; exact start fun c _ b h => runSoftReset_keeps b h c
  | writeRecipe => cases h; exact start fun c _ b h => runWriteRecipe_keeps b h c
  | clearRecipe => cases h; exact start fun c _ b h => runClearRecipe_keeps b h c
  | readRecipe => cases h; exact start fun c _ b h => runReadRecipe_keeps b h c
  | abortLanes => cases h; exact start fun c _ b h => runAbortLanes_keeps b h c
  | restoreLane => cases h; exact start fun c _ b h => runRestoreLane_keeps b h c
  | collect => cases h; exact start fun c _ b h => runCollect_keeps b h c
  | collectNext => cases h; exact start fun c _ b h => runCollectNext_keeps b h c
  | programAnchor => cases h; exact start fun c _ b h => runProgramAnchor_keeps b h c
  | anchorProgramComplete readBack => cases h; exact event fun hr => completeProgram_keeps b hr readBack
  | revokeAnchor => cases h; exact start fun c _ b h => runRevokeAnchor_keeps b h c
  | anchorRevokeComplete readBack => cases h; exact event fun hr => completeRevoke_keeps b hr readBack
  | readAnchorState => cases h; exact start fun c _ b h => runReadAnchorState_keeps b h c
  | setLock => cases h; exact start fun c _ b h => runSetLock_keeps b h c
  | clearLock => cases h; exact start fun c _ b h => runClearLock_keeps b h c
  | readLocks => cases h; exact start fun c _ b h => runReadLocks_keeps b h c
  | badCommand code => cases h; exact start fun c _ b h => runOf_keeps b h code c
  | startRefused code => cases h; exact start fun c _ b h => runOf_keeps b h code c
  | interruptFlagsWrite x => cases h; exact run (.aside (.of_frame rfl))
  | interruptMaskWrite x => cases h; exact run (.aside (.of_frame rfl))
  | registerWrite addr x => cases h; exact event fun _ => writeWindow_keeps b addr x
  | lockLineLevel asserted => cases h; exact preserves_of_lines b rfl id fun _ => id
  | rstAssert => cases h; exact assertRst_preserves b
  | rstRelease => cases h; exact preserves_of_lines b rfl id fun _ => id
  | powerOn => cases h; exact powerOn_preserves b
  | powerLoss => cases h; exact powerLoss_preserves s
  | startupEnd => cases h; exact endStartup_preserves b

/-- Every step preserves what the statements about every step say. -/
theorem step_preserves {s t : State} (b : BlocksAgree s) (h : step s = .next t) : Preserves s t := by
  unfold step at h
  split at h
  · rename_i i rest _
    exact .of_waiting (serial := s.serial) (pending := rest) b fun b => exec_preserves b i h
  · cases h
    unfold idle
    split
    · rename_i e rest _
      exact .of_waiting (serial := rest) (pending := s.pending) b fun b => serialEvent_preserves b e
    · exact (tick_keeps b).preserves fun hn => whenRunning_not hn

/-! ## The statements about every step -/

/-- Settles O56: each step is one of the runs of changes that keep the blocks agreeing, or a reset. -/
theorem stepKeepsBlocksAgreeing : Obligations.StepKeepsBlocksAgreeing := fun _ _ b h => (step_preserves b h).blocks

/-- Settles O58. -/
theorem stepKeepsFieldsSound : Obligations.StepKeepsFieldsSound := by
  rintro s t b ⟨contexts, recipes, locks, anchors, records, queue, held, port⟩ h
  have p := step_preserves b h
  exact ⟨(p.contexts contexts).1, p.recipes recipes, p.locks locks, p.anchors anchors held, p.records records,
    p.queue queue, p.held held, p.port port⟩

/-- Settles O59. -/
theorem lastingStateContinues : Obligations.LastingStateContinues := by
  intro s t b contexts anchors h
  have p := step_preserves b h
  exact ⟨(p.contexts contexts).2, p.spent anchors, fun n r hr hs hp => p.sticky hp n r hr hs⟩

/-- Settles O5. -/
theorem agreementsHoldAtReset : Obligations.AgreementsHoldAtReset := by
  refine ⟨blocksAgree_reset.attention, blocksAgree_reset, framesMatch_reset, fun k c hc => ?_, fun n d hd => ?_,
    fun n r hr => ?_, .of_writes (fun a => ?_) fun _ w a => ?_, fun k r hr => ?_, Nat.zero_le 8, fun hn => absurd rfl hn,
    trivial⟩
  · rw [slot_reset] at hc; cases hc
  · rw [recipe_reset] at hd; cases hd
  · rw [lockRange_reset] at hr; cases hr
  · rw [anchor_reset]; exact ⟨rfl, fun h => nomatch h⟩
  · rw [anchor_reset]
    show none = some w ↔ UnitState.idle = w.unit a
    simp [(w.unit_ne_idle a).symm]
  · rw [cond_reset] at hr; cases hr

end Sys2Proof.Machine
end

section
/-! PROOFS. Raises, the countdown and the expiry of drain timers. -/

namespace Sys2Proof.Machine
open Sys2Proof

/-! ## Items written back as they are -/

theorem setCond_self (s : State) (k : SlotNo) : s.setCond k (s.cond k) = s := by simp [State.setCond, State.cond]

theorem setSlot_self (s : State) (k : SlotNo) : s.setSlot k (s.slot k) = s := by simp [State.setSlot, State.slot]

/-! ## Conditions -/

/-- Settles O55. -/
theorem raiseCreatesOrMerges : Obligations.RaiseCreatesOrMerges := by
  intro r k s
  refine ⟨raiseOn_not_raisable, fun hr hc => raiseOn_create hr hc, fun c hr hc => ?_, fun e => ⟨fun hc => ?_, fun c hc => ?_⟩⟩
  · have overlap : min 15 (c.overlap + 1) = if c.overlap < 15 then c.overlap + 1 else 15 := by split <;> omega
    rw [raiseOn_merge hr hc, mergeRaise, overlap]
  · rw [applyEnding, hc]
    exact (congrArg (s.setCond k) hc).symm.trans (setCond_self s k)
  · rw [applyEnding, hc]; rfl

/-! ## Time -/

theorem timerDue_iff {c : Context} : c.timerDue = true ↔ c.timing = true ∧ c.timerLeft = 0 := by
  simp [Context.timerDue]

theorem slot_due_iff {s : State} {k : SlotNo} : (s.slot k).any Context.timerDue = true ↔
    ∃ c, s.slot k = some c ∧ c.timing = true ∧ c.timerLeft = 0 := by
  simp only [Option.any_eq_true, timerDue_iff]

theorem firstDue_none {s : State}
    (h : ∀ (k : SlotNo) (c : Context), s.slot k = some c → c.timing = true → c.timerLeft ≠ 0) : firstDue s = none := by
  refine List.find?_eq_none.2 fun k _ hk => ?_
  obtain ⟨c, hc, ht, h0⟩ := slot_due_iff.1 hk
  exact h k c hc ht h0

theorem firstDue_lowest {s : State} {k : SlotNo} {c : Context} (hc : s.slot k = some c) (hd : c.timerDue = true)
    (h : ∀ j < k, ∀ x, s.slot j = some x → x.timing = true → x.timerLeft ≠ 0) : firstDue s = some k := by
  refine List.find?_eq_some_iff_getElem.2 ⟨by simp [hc, hd], k.val, by simp, by simp, fun j hj => ?_⟩
  have early := h ⟨j, by omega⟩ hj
  simp only [List.getElem_finRange, Bool.not_eq_true', Fin.cast_mk]
  refine Bool.eq_false_iff.2 fun hk => ?_
  obtain ⟨x, hx, ht, h0⟩ := slot_due_iff.1 hk
  exact early x hx ht h0

/-- Settles O2: without a due timer `tick` counts down every running one. -/
theorem idleStepCountsRunningTimersDown : Obligations.IdleStepCountsRunningTimersDown := by
  intro s hp
  have stepped : step s = .next (idle s) := by simp [step, hp]
  refine ⟨fun e rest hs => ?_, fun hs hr hd => ⟨countDownAll s, ?_, rfl, fun k => countDownAll_slot s k⟩⟩
  · rw [stepped]; simp [idle, hs]
  · rw [stepped]
    simp [idle, hs, tick, whenRunning_running hr, firstDue_none hd]

/-- A timer that is not due does not expire (R19). -/
theorem expireTimer_not_due {s : State} {k : SlotNo}
    (h : ∀ c, s.slot k = some c → c.timing = true → c.timerLeft ≠ 0) : expireTimer k s = s := by
  refine if_neg fun hk => ?_
  obtain ⟨c, hc, ht, h0⟩ := slot_due_iff.1 hk
  exact h c hc ht h0

theorem expireTimer_due {s : State} {k : SlotNo} {c : Context} (hc : s.slot k = some c) (hd : c.timerDue = true) :
    expireTimer k s = drainEnd .timer .timer none k s := if_pos (by simp [hc, hd])

/-- What retire makes of a slot's record: FREE with no frame in flight, else RETIRING (R17). -/
theorem retireSlot_eq {s : State} {k : SlotNo} {c : Context} (hc : s.slot k = some c) :
    retireSlot k s =
      (let u := s.setEntry c.tag ((s.entry c.tag).without k)
       if c.inFlight = 0 then freeSlot k u else u.setSlot k (some { c with state := .retiring, timerRuns := false })) := by
  dsimp only
  split
  · rename_i h0; exact retireSlot_idle hc h0
  · rename_i h0; exact retireSlot_busy hc h0

/-- The drain end of a DRAINING slot (R21). -/
theorem drainEnd_draining {s : State} {k : SlotNo} {c : Context} (hc : s.slot k = some c) (hs : c.state = .draining)
    (r : Reason) (p : CondPhase) (q : Option SeqNo) :
    drainEnd r p q k s =
      raiseOnSome { cls := .drained, phase := some p, seq := q, reason := some r } (activeOf (retireSlot k s) c.tag)
        (retireSlot k s) := by
  simp only [drainEnd, hc, hs, if_true]

/-- Settles O33: the expiry of a due timer is a drain end, and `tick` takes the lowest due slot. -/
theorem drainTimerExpiryEndsDrain : Obligations.DrainTimerExpiryEndsDrain := by
  intro s k hr
  have taken : exec (.drainTimerExpiry k) s = .next (expireTimer k s) := by
    simp [exec, execDrainTimerExpiry, whenRunning_running hr]
  refine ⟨fun h => by rw [taken, expireTimer_not_due h], fun c hc ht h0 => ?_⟩
  have due : c.timerDue = true := timerDue_iff.2 ⟨ht, h0⟩
  have draining : c.state = .draining := by
    have : c.state = .draining ∧ c.timerRuns = true := by simpa [Context.timing] using ht
    exact this.1
  refine ⟨?_, fun hp hs lowest => ?_⟩
  · rw [taken, expireTimer_due hc due, drainEnd_draining hc draining, retireSlot_eq hc]
    rfl
  · rw [taken]
    simp [step, hp, idle, hs, tick, whenRunning_running hr, firstDue_lowest hc due lowest]

end Sys2Proof.Machine
end

section
/-! PROOFS. What the release of a LANE entry does. -/

namespace Sys2Proof.Machine
open Sys2Proof

/-! ## The judgement of a release, under a slot that passes its check -/

theorem reachesVerifyLimit_iff {c : Context} :
    reachesVerifyLimit c = true ↔ c.verifyFailures ≠ 255 ∧
      (if c.verifyFailures = 255 then 255 else c.verifyFailures + 1) = c.settings.verifyLimit ∧
      c.settings.verifyLimit ≠ 0 := by
  simp only [reachesVerifyLimit, Bool.and_eq_true, bne_iff_ne, ne_eq, beq_iff_eq]
  constructor
  · rintro ⟨⟨h0, h1⟩, h2⟩
    exact ⟨h1, (if_neg h1).trans h2, h0⟩
  · rintro ⟨h1, h2, h0⟩
    exact ⟨⟨h0, h1⟩, (if_neg h1).symm.trans h2⟩

theorem budgetReached_iff {c : Context} :
    budgetReached c = true ↔ c.settings.drainBudget ≠ 0 ∧ c.settings.drainBudget ≤ c.drainProgress := by
  simp [budgetReached]

/-- A VERIFY_FAIL under a slot in use (R123). -/
theorem releaseFailure_eq {s : State} {k : SlotNo} {c : Context} (hc : s.slot k = some c) (seq : SeqNo) :
    releaseFailure k seq s =
      (let u := s.setSlot k (some (countFailure c))
       if reachesVerifyLimit c then
         raiseOn { cls := .verifyLimit, hold := c.settings.flags.verifyHold, phase := some .release, seq := some seq } k u
       else u) := by
  unfold releaseFailure
  rw [hc]
  dsimp only
  rw [updateSlot_of_some hc]

/-- A VERIFIED frame at or below the watermark (R124). -/
theorem releaseVerified_stale {s : State} {k : SlotNo} {c : Context} (hc : s.slot k = some c) {seq : SeqNo}
    (hw : seq ≤ c.watermark) (dr : List Damage) :
    releaseVerified dr k seq s = (s.setSlot k (some (countStale c)), .stale) := by
  unfold releaseVerified
  rw [hc]
  dsimp only
  rw [if_pos hw, updateSlot_of_some hc]

/-- A VERIFIED frame above the watermark (R124). -/
theorem releaseVerified_passed {s : State} {k : SlotNo} {c : Context} (hc : s.slot k = some c) {seq : SeqNo}
    (hw : c.watermark < seq) (dr : List Damage) :
    releaseVerified dr k seq s = (afterAdmit dr k seq (s.setSlot k (some (countAdmitted seq c))), .passed) := by
  have above : ¬seq ≤ c.watermark := by rw [BitVec.le_def]; rw [BitVec.lt_def] at hw; omega
  unfold releaseVerified
  rw [hc]
  dsimp only
  rw [if_neg above, updateSlot_of_some hc]

/-- An admitted frame PASSED under an ACTIVE slot (R125). -/
theorem afterAdmit_active {s : State} {k : SlotNo} {c : Context} (hc : s.slot k = some c) (hs : c.state = .active)
    (dr : List Damage) (seq : SeqNo) : afterAdmit dr k seq s = drainProgress c.tag seq s := by
  simp only [afterAdmit, hc, hs]

/-- An admitted frame PASSED under a STANDBY (R125). -/
theorem afterAdmit_standby {s : State} {k : SlotNo} {c : Context} (hc : s.slot k = some c) (hs : c.state = .standby)
    (dr : List Damage) (seq : SeqNo) :
    afterAdmit dr k seq s = if c.settings.flags.peerRoll then peerRoll dr k seq s else s := by
  simp only [afterAdmit, hc, hs]

/-- An admitted frame PASSED under a DRAINING or RETIRING slot (R125). -/
theorem afterAdmit_leaving {s : State} {k : SlotNo} {c : Context} (hc : s.slot k = some c)
    (hs : c.state = .draining ∨ c.state = .retiring) (dr : List Damage) (seq : SeqNo) : afterAdmit dr k seq s = s := by
  rcases hs with hs | hs <;> simp only [afterAdmit, hc, hs]

/-- A record that keeps its state leaves the tag's DRAINING slot as it was. -/
theorem drainingOf_setSlot {s : State} {k : SlotNo} {c d : Context} (hc : s.slot k = some c) (hs : d.state = c.state)
    (t : Tag) : drainingOf (s.setSlot k (some d)) t = drainingOf s t := by
  have same : ∀ j, (s.setSlot k (some d)).slotIs j .draining = s.slotIs j .draining := by
    intro j
    rw [Bool.eq_iff_iff, slotIs_iff, slotIs_iff, slot_setSlot]
    split
    · rename_i e; rw [← e, hc]; simp [hs]
    · exact .rfl
  simp only [drainingOf, entry_setSlot, same]

/-- The sequence a release's record check carries (R120). -/
theorem LaneEntry.carried_eq (e : LaneEntry) :
    e.carried = if e.job.dir = .toProtect ∨ e.parsed = true then some e.seq else none := by
  unfold LaneEntry.carried
  cases e.job.dir <;> simp

/-! ## The statements about releases -/

/-- Settles O28. -/
theorem admitJudgedAtRelease : Obligations.AdmitJudgedAtRelease := by
  intro s ds dr e o n c h
  have hc : (s.dequeued ds).slot e.job.slot = some c := h.intact.1
  have released := exec_release_finished h dr
  refine ⟨fun ho => ?_, fun ho => ?_, fun ho hw => ?_, fun ho hw hs => ?_⟩ <;> subst ho <;> rw [released]
  · rfl
  · simp only [judge, releaseFailure_eq hc, reachesVerifyLimit_iff]
    rfl
  · simp only [judge, releaseVerified_stale hc hw]
    rfl
  · have passed := slot_setSlot_self (s.dequeued ds) e.job.slot (some (countAdmitted e.seq c))
    have quiet : afterAdmit dr e.job.slot e.seq ((s.dequeued ds).setSlot e.job.slot (some (countAdmitted e.seq c))) =
        (s.dequeued ds).setSlot e.job.slot (some (countAdmitted e.seq c)) := by
      rcases hs with hs | hs | ⟨hs, hf⟩ | ⟨hs, hd⟩
      · exact afterAdmit_leaving passed (.inl hs) dr e.seq
      · exact afterAdmit_leaving passed (.inr hs) dr e.seq
      · exact (afterAdmit_standby passed hs dr e.seq).trans (if_neg (by simp [countAdmitted, hf]))
      · rw [afterAdmit_active passed hs, drainProgress, drainingOf_setSlot (d := countAdmitted e.seq c) hc rfl]
        simp only [countAdmitted, hd]
    simp only [judge, releaseVerified_passed hc hw, quiet]
    rfl

/-- Settles O29. -/
theorem passedAdmitCountsDrainProgress : Obligations.PassedAdmitCountsDrainProgress := by
  intro s ds dr e n c x d h hw hs hd hx hxs
  have hc : (s.dequeued ds).slot e.job.slot = some c := h.intact.1
  set u := (s.dequeued ds).setSlot e.job.slot (some (countAdmitted e.seq c)) with hu
  have apart : e.job.slot ≠ d := fun he => by
    rw [← he, hc] at hx
    cases hx
    rw [hs] at hxs; cases hxs
  have hux : u.slot d = some x := (slot_setSlot_ne _ apart _).trans hx
  have draining : drainingOf u c.tag = some d := by
    have entry : u.entry c.tag = s.entry c.tag := damage_entry ds { s with queue := s.queue.tail } c.tag
    rw [drainingOf, entry, hd]
    exact Option.filter_some_pos (slotIs_iff.2 ⟨x, hux, hxs⟩)
  have progress : drainProgress c.tag e.seq u =
      (let v := u.setSlot d (some (countProgress x))
       if budgetReached (countProgress x) then drainEnd .budget .release (some e.seq) d v else v) := by
    unfold drainProgress
    rw [draining]
    dsimp only
    rw [updateSlot_of_some hux, slot_setSlot_self]
    rfl
  have after : afterAdmit dr e.job.slot e.seq u = drainProgress c.tag e.seq u :=
    afterAdmit_active (c := countAdmitted e.seq c) (slot_setSlot_self _ _ _) hs dr e.seq
  rw [exec_release_finished h dr]
  simp only [judge, releaseVerified_passed hc hw, ← hu, after, progress, budgetReached_iff]
  rfl

/-- Settles O30. -/
theorem passedAdmitMakesPeerRollOver : Obligations.PassedAdmitMakesPeerRollOver := by
  intro s ds dr e n c h hw hs hf
  have hc : (s.dequeued ds).slot e.job.slot = some c := h.intact.1
  have after : afterAdmit dr e.job.slot e.seq ((s.dequeued ds).setSlot e.job.slot (some (countAdmitted e.seq c))) =
      peerRoll dr e.job.slot e.seq ((s.dequeued ds).setSlot e.job.slot (some (countAdmitted e.seq c))) :=
    (afterAdmit_standby (c := countAdmitted e.seq c) (slot_setSlot_self _ _ _) hs dr e.seq).trans (if_pos hf)
  rw [exec_release_finished h dr]
  simp only [judge, releaseVerified_passed hc hw, after]
  rfl

/-- Settles O31: the check quarantines the slot, which is then not live. -/
theorem releaseCheckFailureAborts : Obligations.ReleaseCheckFailureAborts := by
  intro s ds dr e rest o n c g h hf hc hg
  have dequeued : damage ds { s with queue := rest } = s.dequeued ds := by simp [State.dequeued, h.head]
  have failed := recordCheck_fail (p := .release) (q := e.carried) (s := s.dequeued ds) (k := e.job.slot) (g := g)
    (by rw [hc]; exact hg)
  have dead : slotLive (quarantine .release e.carried g e.job.slot (s.dequeued ds)) e.job.slot = false := by
    rw [slotLive, quarantine_slot, if_pos rfl, hc]; rfl
  rw [exec_release_lane h (by rw [hf]; exact Status.noConfusion)]
  rw [← LaneEntry.carried_eq]
  simp only [decideRelease, hf, releaseFinished, dequeued, failed, dead]
  rfl

end Sys2Proof.Machine
end

section
/-! PROOFS. PURGE and RETIRE. -/

namespace Sys2Proof.Machine
open Sys2Proof

/-! ## A Start taken, through the shared operations -/

theorem raiseOn_copied (r : Raise) (k : SlotNo) (s : State) (code : Byte) :
    raiseOn r k (s.copied code) = (raiseOn r k s).copied code := by
  cases hr : raisable s k with
  | false => rw [raiseOn_not_raisable hr, raiseOn_not_raisable (s := s.copied code) hr]
  | true =>
    cases hc : s.cond k with
    | none => rw [raiseOn_create hr hc, raiseOn_create (s := s.copied code) hr hc]; rfl
    | some c => rw [raiseOn_merge hr hc, raiseOn_merge (s := s.copied code) hr hc]; rfl

theorem quarantine_copied (p : CondPhase) (q : Option SeqNo) (g : CheckGroup) (k : SlotNo) (s : State) (code : Byte) :
    quarantine p q g k (s.copied code) = (quarantine p q g k s).copied code :=
  congrArg (applyEnding .cut k) (raiseOn_copied _ k (endJobs (openJobs k s) .aborted (s.updateSlot k quarantinedContext))
    code)

/-- A record check that passes, with the Start taken. -/
theorem recordCheck_copied_pass {p : CondPhase} {q : Option SeqNo} {k : SlotNo} {s : State} {c : Context}
    (hc : s.slot k = some c) (hg : failingGroup c = none) (code : Byte) :
    recordCheck p q k (s.copied code) = s.copied code :=
  recordCheck_pass (s := s.copied code) (by rw [show (s.copied code).slot k = some c from hc]; exact hg)

/-- A record check that fails, with the Start taken. -/
theorem recordCheck_copied_fail {p : CondPhase} {q : Option SeqNo} {k : SlotNo} {s : State} {c : Context}
    {g : CheckGroup} (hc : s.slot k = some c) (hg : failingGroup c = some g) (code : Byte) :
    recordCheck p q k (s.copied code) = (quarantine p q g k s).copied code := by
  rw [← quarantine_copied]
  exact recordCheck_fail (s := s.copied code) (by rw [show (s.copied code).slot k = some c from hc]; exact hg)

theorem quarantine_slot_self {p : CondPhase} {q : Option SeqNo} {g : CheckGroup} {k : SlotNo} {s : State} {c : Context}
    (hc : s.slot k = some c) : (quarantine p q g k s).slot k = some (quarantinedContext c) := by
  rw [quarantine_slot, if_pos rfl, hc]; rfl

/-- A command that names a slot passes its lock checks (R159, R160). -/
theorem onSlot_open {s t : State} {code : Byte} (h : Unlocked s) (hl : slotLocked t s.namedSlot = false)
    (go : CommandCopy → SlotNo → State → State) :
    onSlot go (copyAtStart code s) t = go (copyAtStart code s) s.namedSlot t := by
  unfold onSlot
  rw [guarded_released h.released]
  exact if_neg (by rw [Bool.not_eq_true]; exact hl)

theorem slotLocked_copied (ds : List Damage) (s : State) (k : SlotNo) (code : Byte) :
    slotLocked ((damage ds s).copied code) k = slotLocked s k := damage_slotLocked ds s k

/-- A completion on a state in which slots, directory, conditions and jobs alone have changed since the Start. -/
theorem post_after {s u : State} {ds : List Damage} {code : Byte} {r : ResultCode} {f : List Byte}
    (hb : u.commandBlock = (damage ds s).commandBlock) (hl : u.lockLine = (damage ds s).lockLine) :
    post (copyAtStart code s) r f (u.copied code) = u.answered code r f :=
  post_answered (hb.trans (damage_commandBlock ds s)) (hl.trans (damage_lockLine ds s))

/-- A refusal after the damage met at the reads (R158). -/
theorem post_unchanged (s : State) (ds : List Damage) (code : Byte) (r : ResultCode) (f : List Byte) :
    post (copyAtStart code s) r f ((damage ds s).copied code) = (damage ds s).answered code r f := post_after rfl rfl

/-- A refusal after the quarantine of a slot (R161). -/
theorem post_quarantined (s : State) (ds : List Damage) (code : Byte) (r : ResultCode) (f : List Byte) (p : CondPhase)
    (q : Option SeqNo) (g : CheckGroup) (k : SlotNo) :
    post (copyAtStart code s) r f ((quarantine p q g k (damage ds s)).copied code) =
      (quarantine p q g k (damage ds s)).answered code r f := post_answered (by simp) (by simp)

/-! ## PURGE -/

theorem exec_purge_open {s : State} (h : Unlocked s) (hl : slotLocked s s.namedSlot = false) :
    exec .purge s = .next (purgeNamed (copyAtStart 0x06 s) s.namedSlot (s.copied 0x06)) := by
  simp only [exec, execPurge, writeStart_ready h.toCommandReady, runPurge]
  rw [onSlot_open (t := s.copied 0x06) h hl]

/-- Settles O43. -/
theorem purgeFreesQuarantinedSlot : Obligations.PurgeFreesQuarantinedSlot := by
  intro s h hl
  rw [exec_purge_open h hl]
  refine ⟨fun hq => ?_, fun c hc hs => ?_⟩
  · unfold purgeNamed
    split
    · rename_i x hx
      rw [if_neg, post_answered rfl rfl]
      exact fun e => Bool.false_ne_true (hq.symm.trans (slotIs_iff.2 ⟨x, hx, e⟩))
    · rw [post_answered rfl rfl]
  · have hx : (s.copied 0x06).slot s.namedSlot = some c := hc
    have cond : (s.copied 0x06).cond s.namedSlot = s.cond s.namedSlot := rfl
    refine ⟨fun hn h0 => ?_, fun hp => ?_⟩
    · have place : placeInDir (s.copied 0x06) s.namedSlot = (s.entry c.tag).placeOf s.namedSlot := by
        rw [placeInDir, hx]; rfl
      simp only [purgeNamed, hx, hs, cond, hn, h0, if_true, Option.isNone_none, and_self, place]
      exact congrArg _ (post_answered (u := purgeSlot s.namedSlot c s) rfl rfl)
    · have pending : ¬((s.cond s.namedSlot).isNone = true ∧ c.inFlight = 0) := by
        rintro ⟨h1, h2⟩
        exact hp.elim (fun g => g (Option.isNone_iff_eq_none.1 h1)) fun g => g h2
      simp only [purgeNamed, hx, hs, cond, if_true, pending, if_false, inFlightByte]
      rw [post_answered rfl rfl]

/-! ## RETIRE -/

theorem exec_retire_open {s : State} (h : Unlocked s) (hl : slotLocked s s.namedSlot = false) (ds : List Damage) :
    exec (.retire ds) s = .next (retireNamed (copyAtStart 0x04 s) s.namedSlot ((damage ds s).copied 0x04)) := by
  simp only [exec, execRetire, writeStart_ready h.toCommandReady, runRetire]
  rw [damage_copied, onSlot_open h ((slotLocked_copied ds s _ _).trans hl)]

/-- RETIRE of a slot in a state it applies to goes on to the record check (R169). -/
theorem retireNamed_retirable {s : State} {k : SlotNo} {c : Context} (hc : s.slot k = some c)
    (hs : c.state = .standby ∨ c.state = .active ∨ c.state = .draining) (copy : CommandCopy) :
    retireNamed copy k s = retireChecked copy k (recordCheck .command none k s) := by
  rcases hs with hs | hs | hs <;> simp only [retireNamed, hc, hs]

theorem CtxState.retirable_of {x : CtxState} (h : x = .standby ∨ x = .active ∨ x = .draining) : x.retirable = true := by
  rcases h with rfl | rfl | rfl <;> rfl

/-- RETIRE of a slot quarantined by its record check (R161). -/
theorem retireChecked_quarantined {s : State} {k : SlotNo} {c : Context} (hc : s.slot k = some (quarantinedContext c))
    (copy : CommandCopy) : retireChecked copy k s = post copy .badState [] s := by
  refine if_neg fun h => ?_
  obtain ⟨x, hx, hr⟩ := slotRetirable_iff.1 h
  cases hc.symm.trans hx
  cases hr

/-- RETIRE of a slot whose record passes: the report follows the slot's state after the retire (R169). -/
theorem retireChecked_passed {s : State} {k : SlotNo} {c : Context} (hc : s.slot k = some c)
    (hr : c.state.retirable = true) (copy : CommandCopy) :
    retireChecked copy k s = post copy .done
      (if c.inFlight = 0 then [0x00, 0x00] else [0x05, BitVec.ofNat 8 c.inFlight]) (retireSlot k s) := by
  have slot := retireSlot_slot hc k
  rw [if_pos rfl] at slot
  rw [retireChecked, if_pos (slotRetirable_iff.2 ⟨c, hc, hr⟩), retireReport, inFlightByte, slot]
  split <;> rfl

/-- Settles O41. -/
theorem retireUnbinds : Obligations.RetireUnbinds := by
  intro s ds h hl
  rw [exec_retire_open h hl]
  refine ⟨fun hn => ?_, fun c hc => ?_⟩
  · have free : ((damage ds s).copied 0x04).slot s.namedSlot = none := (damage_free ds s s.namedSlot).2 hn
    simp only [retireNamed, free]
    rw [post_unchanged]
  · have hx : ((damage ds s).copied 0x04).slot s.namedSlot = some c := hc
    refine ⟨fun hs => ?_, fun hs => ?_, fun hs => ⟨fun g hg => ?_, fun hg => ?_⟩⟩
    · simp only [retireNamed, hx, hs]
      rw [post_unchanged]
    · rcases hs with hs | hs <;> simp only [retireNamed, hx, hs] <;> rw [post_unchanged]
    · rw [retireNamed_retirable hx hs, recordCheck_copied_fail hc hg,
        retireChecked_quarantined (s := (quarantine .command none g s.namedSlot (damage ds s)).copied 0x04)
          (quarantine_slot_self hc), post_quarantined]
    · have entry : (damage ds s).entry c.tag = s.entry c.tag := damage_entry ds s c.tag
      rw [retireNamed_retirable hx hs, recordCheck_copied_pass hc hg,
        retireChecked_passed hx (CtxState.retirable_of hs)]
      refine ⟨fun h0 => ?_, fun h0 => ?_⟩
      · rw [if_pos h0, retireSlot_idle hx h0, ← entry]
        exact congrArg _ (post_after (u := freeSlot s.namedSlot (unbind c.tag s.namedSlot (damage ds s))) rfl rfl)
      · rw [if_neg h0, retireSlot_busy hx h0, ← entry]
        exact congrArg _ (post_after (u := (unbind c.tag s.namedSlot (damage ds s)).setSlot s.namedSlot
          (some (retiringContext c))) rfl rfl)

end Sys2Proof.Machine
end

section
/-! PROOFS. MODIFY. -/

namespace Sys2Proof.Machine
open Sys2Proof

/-! ## MODIFY -/

theorem retireSlot_copied (k : SlotNo) (s : State) (code : Byte) :
    retireSlot k (s.copied code) = (retireSlot k s).copied code := by
  cases hc : s.slot k with
  | none => simp only [retireSlot, hc, show (s.copied code).slot k = none from hc]
  | some c =>
    by_cases h0 : c.inFlight = 0
    · rw [retireSlot_idle hc h0, retireSlot_idle (s := s.copied code) hc h0]; rfl
    · rw [retireSlot_busy hc h0, retireSlot_busy (s := s.copied code) hc h0]; rfl

theorem raiseOnSome_copied (r : Raise) (k : Option SlotNo) (s : State) (code : Byte) :
    raiseOnSome r k (s.copied code) = (raiseOnSome r k s).copied code := by
  cases k with
  | none => rfl
  | some k => exact raiseOn_copied r k s code

/-- The drain end of a DRAINING slot, with the Start taken. -/
theorem drainEnd_copied {s : State} {k : SlotNo} {c : Context} (hc : s.slot k = some c) (hs : c.state = .draining)
    (r : Reason) (p : CondPhase) (q : Option SeqNo) (code : Byte) :
    drainEnd r p q k (s.copied code) = (drainEnd r p q k s).copied code := by
  rw [drainEnd_draining (s := s.copied code) hc hs, drainEnd_draining hc hs, retireSlot_copied, ← raiseOnSome_copied]
  rfl

theorem exec_modify_badField {s : State} (h : Unlocked s) (hm : modifyChangesAt s.commandBlock = none)
    (ds : List Damage) : exec (.modify ds) s = .next ((damage ds s).answered 0x05 .badField []) := by
  simp only [exec, execModify, writeStart_ready h.toCommandReady, runModify, guarded_released
    (c := copyAtStart 0x05 s) h.released, copyAtStart_block, hm]
  rw [damage_copied, post_unchanged]

/-- MODIFY with its fields in range, past its lock checks (R170). -/
theorem exec_modify_named {s : State} (h : Unlocked s) {ch : SettingChanges}
    (hm : modifyChangesAt s.commandBlock = some ch) (hl : slotLocked s s.namedSlot = false) (ds : List Damage) :
    exec (.modify ds) s = .next
      (if slotRetirable (damage ds s) s.namedSlot then
        modifyChecked (copyAtStart 0x05 s) ch s.namedSlot
          (recordCheck .command none s.namedSlot ((damage ds s).copied 0x05))
      else (damage ds s).answered 0x05 .badState []) := by
  have unlocked : slotLocked ((damage ds s).copied 0x05) (slotAt s.commandBlock 0x00) = false :=
    (slotLocked_copied ds s _ _).trans hl
  simp only [exec, execModify, writeStart_ready h.toCommandReady, runModify, guarded_released
    (c := copyAtStart 0x05 s) h.released, copyAtStart_block, hm]
  rw [damage_copied]
  refine congrArg _ ((if_neg fun e => Bool.false_ne_true (unlocked.symm.trans e)).trans ?_)
  rw [← post_unchanged]
  rfl

/-- MODIFY of a slot quarantined by its record check (R161). -/
theorem modifyChecked_quarantined {s : State} {k : SlotNo} {c : Context} (hc : s.slot k = some (quarantinedContext c))
    (copy : CommandCopy) (ch : SettingChanges) : modifyChecked copy ch k s = post copy .badState [] s := by
  simp only [modifyChecked, hc]
  rfl

theorem changesFit_iff {ch : SettingChanges} {c : Context} :
    changesFit ch c = true ↔ (∀ m, ch.lowMark = some m → m ≤ c.lifeInstalled) ∧
      ∀ m, ch.ceiling = some m → c.nextSeq.toNat ≤ m.toNat + 1 := by
  simp only [changesFit, Bool.and_eq_true, Option.all_eq_true, decide_eq_true_eq]

/-- MODIFY of a slot whose record passes, with settings that fit it (R171). -/
theorem modifyChecked_fit {s : State} {k : SlotNo} {c : Context} (hc : s.slot k = some c)
    (hr : c.state.retirable = true) {ch : SettingChanges} (hf : changesFit ch c = true) (copy : CommandCopy) :
    modifyChecked copy ch k s =
      (let u := budgetTest ch k (s.setSlot k (some (applyChanges ch c)))
       post copy .done (modifyReport k u) u) := by
  simp only [modifyChecked, hc, hr, hf, if_true, modifyApply, updateSlot_of_some hc]

theorem modifyChecked_unfit {s : State} {k : SlotNo} {c : Context} (hc : s.slot k = some c)
    (hr : c.state.retirable = true) {ch : SettingChanges} (hf : ¬changesFit ch c = true) (copy : CommandCopy) :
    modifyChecked copy ch k s = post copy .badField [] s := by
  simp only [modifyChecked, hc, hr, if_true, hf]
  rfl

/-- A budget that MODIFY sets ends the drain at once if it is reached already (R20, R171). -/
theorem budgetTest_eq {s : State} {k : SlotNo} {c : Context} (hc : s.slot k = some c) (ch : SettingChanges) :
    budgetTest ch k s =
      if c.state = .draining ∧ ch.drainBudget ≠ none ∧ c.settings.drainBudget ≠ 0 ∧
        c.settings.drainBudget ≤ c.drainProgress then drainEnd .budget .command none k s else s := by
  simp only [budgetTest, hc, Option.any_some, Bool.and_eq_true, beq_iff_eq, budgetReached_iff, Option.isSome_iff_ne_none]
  exact if_congr ⟨fun ⟨h1, h2, h3⟩ => ⟨h2, h1, h3⟩, fun ⟨h1, h2, h3⟩ => ⟨h2, h1, h3⟩⟩ rfl rfl

/-- Settles O42. -/
theorem modifyChangesSelectedSettings : Obligations.ModifyChangesSelectedSettings := by
  intro s ds h
  refine ⟨fun hm => exec_modify_badField h hm ds, fun ch hm hl => ?_⟩
  rw [exec_modify_named h hm hl]
  refine ⟨fun hn => ?_, fun c hc hs => ?_⟩
  · rw [if_neg]
    intro hr
    obtain ⟨x, hx, hr⟩ := slotRetirable_iff.1 hr
    rw [damage_slot] at hx
    obtain ⟨c, hc, rfl⟩ := Option.map_eq_some_iff.1 hx
    rcases hn c hc with e | e | e <;> simp only [e] at hr <;> cases hr
  · have retirable := CtxState.retirable_of hs
    have hx : ((damage ds s).copied 0x05).slot s.namedSlot = some c := hc
    rw [if_pos (slotRetirable_iff.2 ⟨c, hc, retirable⟩)]
    refine ⟨fun g hg => ?_, fun hg => ?_⟩
    · rw [recordCheck_copied_fail hc hg,
        modifyChecked_quarantined (s := (quarantine .command none g s.namedSlot (damage ds s)).copied 0x05)
          (quarantine_slot_self hc), post_quarantined]
    · rw [recordCheck_copied_pass hc hg]
      set u := (damage ds s).setSlot s.namedSlot (some (applyChanges ch c)) with hu
      have changed : u.slot s.namedSlot = some (applyChanges ch c) := slot_setSlot_self _ _ _
      have tested := budgetTest_eq (s := u.copied 0x05) changed ch
      have fit : ((damage ds s).copied 0x05).setSlot s.namedSlot (some (applyChanges ch c)) = u.copied 0x05 := rfl
      refine ⟨fun hf => ?_, fun hf he => ?_, fun hf he => ?_⟩
      · rw [modifyChecked_unfit hx retirable (fun e => hf (changesFit_iff.1 e)), post_unchanged]
      · have report : modifyReport s.namedSlot (u.copied 0x05) =
            [slotByte s.namedSlot, ctxStateByte c.state] ++ settingsReport (ch.apply c.settings) := by
          simp only [modifyReport, show (u.copied 0x05).slot s.namedSlot = _ from changed]
          rfl
        rw [modifyChecked_fit hx retirable (changesFit_iff.2 hf)]
        dsimp only
        rw [fit, tested.trans (if_neg he), report]
        exact congrArg _ (post_after rfl rfl)
      · rw [modifyChecked_fit hx retirable (changesFit_iff.2 hf)]
        dsimp only
        rw [fit, tested.trans (if_pos he), drainEnd_copied changed he.1]
        exact ⟨_, congrArg _ (post_answered (by simp [hu]) (by simp [hu]))⟩

end Sys2Proof.Machine
end

section
/-! PROOFS. INSTALL, SUCCEED and the completion of their unwrap. -/

namespace Sys2Proof.Machine
open Sys2Proof

/-! ## INSTALL -/

theorem exec_install_badField {s : State} (h : Unlocked s) (hi : installAt s.commandBlock = none) :
    exec .install s = .next (s.answered 0x01 .badField (bytesAt s.commandBlock 0x00 2)) := by
  simp only [exec, execInstall, writeStart_ready h.toCommandReady, runInstall, guarded_released
    (c := copyAtStart 0x01 s) h.released, copyAtStart_block, hi]
  exact congrArg _ (post_answered rfl rfl)

/-- INSTALL with its fields in range goes on to checks 3 to 6 (R162). -/
theorem exec_install_checked {s : State} (h : Unlocked s) {n : NewContext} {standby : Bool}
    (hi : installAt s.commandBlock = some (n, standby)) :
    exec .install s = .next (installChecked (copyAtStart 0x01 s) n standby (s.copied 0x01)) := by
  simp only [exec, execInstall, writeStart_ready h.toCommandReady, runInstall, guarded_released
    (c := copyAtStart 0x01 s) h.released, copyAtStart_block, hi]

theorem installChecked_unusable {s : State} {n : NewContext} (hl : tagLocked s n.tag = false)
    (ha : (s.anchor n.anchor).state ≠ .programmed) (c : CommandCopy) (standby : Bool) :
    installChecked c n standby s = post c .anchorUnusable (installReport c) s := by
  simp only [installChecked, hl, anchorKey_of_not ha]
  rfl

/-- INSTALL with a usable anchor goes on to the admission test (R162 checks 5 and 6). -/
theorem installChecked_fails {s : State} {n : NewContext} (hl : tagLocked s n.tag = false) {key : AnchorKey}
    (ha : Usable s n.anchor key) {standby : Bool} {r : ResultCode}
    (hf : AdmissionFails s n.tag standby (markerOf n.generation) r) (c : CommandCopy) :
    installChecked c n standby s = post c r (installReport c) s := by
  simp only [installChecked, hl, anchorKey_of_usable ha, admissionTest_of_fails hf]
  rfl

theorem installChecked_admits {s : State} {n : NewContext} (hl : tagLocked s n.tag = false) {key : AnchorKey}
    (ha : Usable s n.anchor key) {standby : Bool} (hf : Admits s n.tag standby (markerOf n.generation))
    (c : CommandCopy) :
    installChecked c n standby s = takeSlot c (installReport c) n standby key none s := by
  simp only [installChecked, hl, anchorKey_of_usable ha, admissionTest_of_admits hf]
  rfl

theorem takeSlot_full {s : State} (h : ∀ k, s.slot k ≠ none) (c : CommandCopy) (report : List Byte) (n : NewContext)
    (standby : Bool) (key : AnchorKey) (named : Option SlotNo) :
    takeSlot c report n standby key named s = post c .noSlot report s := by
  simp only [takeSlot, firstFree_of_none h]

theorem takeSlot_lowest {s : State} {k : SlotNo} (h : LowestFree s k) (c : CommandCopy) (report : List Byte)
    (n : NewContext) (standby : Bool) (key : AnchorKey) (named : Option SlotNo) :
    takeSlot c report n standby key named s = startUnwrap n standby key named k s := by
  simp only [takeSlot, firstFree_of_lowest h]

/-- Settles O37. -/
theorem installTakesLowestFreeSlot : Obligations.InstallTakesLowestFreeSlot := by
  refine ⟨fun s h hi => exec_install_badField h hi, fun s n standby h hi hl => ?_⟩
  have locked : tagLocked (s.copied 0x01) n.tag = false := hl
  rw [exec_install_checked h hi]
  refine ⟨fun ha => ?_, fun key ha => ⟨fun r hf => ?_, fun hf => ?_⟩⟩
  · rw [installChecked_unusable locked ha]
    exact congrArg _ (post_answered rfl rfl)
  · rw [installChecked_fails (s := s.copied 0x01) locked ha hf]
    exact congrArg _ (post_answered rfl rfl)
  · rw [installChecked_admits (s := s.copied 0x01) locked ha ⟨hf.room, hf.place, hf.marker⟩]
    refine ⟨fun hn => ?_, fun k hk => ?_⟩
    · rw [takeSlot_full (s := s.copied 0x01) hn]
      exact congrArg _ (post_answered rfl rfl)
    · rw [takeSlot_lowest (s := s.copied 0x01) ⟨hk.free, hk.lowest⟩]
      rfl

/-! ## SUCCEED -/

theorem exec_succeed_badField {s : State} (h : Unlocked s) (ho : overridesAt s.commandBlock = none) (ds : List Damage) :
    exec (.succeed ds) s = .next ((damage ds s).answered 0x02 .badField []) := by
  simp only [exec, execSucceed, writeStart_ready h.toCommandReady, runSucceed, guarded_released
    (c := copyAtStart 0x02 s) h.released, copyAtStart_block, ho]
  rw [damage_copied, post_unchanged]

/-- SUCCEED with its overrides in range, past its lock checks (R166). -/
theorem exec_succeed_named {s : State} (h : Unlocked s) {o : Overrides} (ho : overridesAt s.commandBlock = some o)
    (hl : slotLocked s s.namedSlot = false) (ds : List Damage) :
    exec (.succeed ds) s = .next
      (if (damage ds s).slotIs s.namedSlot .active then
        succeedActive (copyAtStart 0x02 s) o s.namedSlot
          (recordCheck .command none s.namedSlot ((damage ds s).copied 0x02))
      else (damage ds s).answered 0x02 .noActive []) := by
  have unlocked : slotLocked ((damage ds s).copied 0x02) (slotAt s.commandBlock 0x00) = false :=
    (slotLocked_copied ds s _ _).trans hl
  simp only [exec, execSucceed, writeStart_ready h.toCommandReady, runSucceed, guarded_released
    (c := copyAtStart 0x02 s) h.released, copyAtStart_block, ho]
  rw [damage_copied]
  refine congrArg _ ((if_neg fun e => Bool.false_ne_true (unlocked.symm.trans e)).trans ?_)
  rw [← post_unchanged]
  rfl

theorem succeedActive_quarantined {s : State} {k : SlotNo} {c : Context} (hc : s.slot k = some (quarantinedContext c))
    (copy : CommandCopy) (o : Overrides) : succeedActive copy o k s = post copy .noActive [] s := by
  simp only [succeedActive, hc]
  rfl

theorem succeedActive_active {s : State} {k : SlotNo} {x : Context} (hx : s.slot k = some x) (hs : x.state = .active)
    (copy : CommandCopy) (o : Overrides) : succeedActive copy o k s = succeedFrom copy o k x s := by
  simp only [succeedActive, hx, hs, if_true]

theorem succeedFrom_markHigh {c : CommandCopy} {o : Overrides} {x : Context}
    (h : (successor c.block o x).life < (successor c.block o x).settings.lowMark) (k : SlotNo) (s : State) :
    succeedFrom c o k x s = post c .badField [] s := if_neg (by rwa [BitVec.not_le])

theorem succeedFrom_unusable {c : CommandCopy} {o : Overrides} {x : Context} {s : State}
    (h : (successor c.block o x).settings.lowMark ≤ (successor c.block o x).life)
    (ha : (s.anchor (successor c.block o x).anchor).state ≠ .programmed) (k : SlotNo) :
    succeedFrom c o k x s = post c .anchorUnusable [] s := by
  simp only [succeedFrom, h, if_true, anchorKey_of_not ha]

/-- SUCCEED with a usable anchor goes on to checks 7 and 8 (R166). -/
theorem succeedFrom_usable {c : CommandCopy} {o : Overrides} {x : Context} {s : State} {key : AnchorKey}
    (h : (successor c.block o x).settings.lowMark ≤ (successor c.block o x).life)
    (ha : Usable s (successor c.block o x).anchor key) (k : SlotNo) :
    succeedFrom c o k x s =
      if 2 ≤ (s.entry x.tag).bound.length then post c .tagFull [] s
      else takeSlot c [] (successor c.block o x) true key (some k) s := by
  simp only [succeedFrom, h, if_true, anchorKey_of_usable ha]

/-- Settles O38. -/
theorem succeedTakesNextGeneration : Obligations.SucceedTakesNextGeneration := by
  intro s ds h
  refine ⟨fun ho => exec_succeed_badField h ho ds, fun o ho hl => ?_⟩
  rw [exec_succeed_named h ho hl]
  refine ⟨fun hn => ?_, fun x g hx hs hg => ?_, fun x hi hs => ?_⟩
  · rw [if_neg (by rw [damage_slotIs, hn]; exact Bool.false_ne_true)]
  · rw [if_pos (slotIs_iff.2 ⟨x, hx, hs⟩), recordCheck_copied_fail hx hg,
      succeedActive_quarantined (s := (quarantine .command none g s.namedSlot (damage ds s)).copied 0x02)
        (quarantine_slot_self hx), post_quarantined]
  · have hx : ((damage ds s).copied 0x02).slot s.namedSlot = some x := hi.1
    have anchor : ∀ a, ((damage ds s).copied 0x02).anchor a = s.anchor a := damage_anchor ds s
    have entry : ((damage ds s).copied 0x02).entry x.tag = s.entry x.tag := damage_entry ds s x.tag
    rw [if_pos (slotIs_iff.2 ⟨x, hi.1, hs⟩), recordCheck_copied_pass hi.1 hi.2, succeedActive_active hx hs]
    refine ⟨rfl, rfl, rfl, rfl, rfl, fun hm => ?_, fun hm ha => ?_, fun key hm ha => ?_⟩
    · rw [succeedFrom_markHigh (c := copyAtStart 0x02 s) hm, post_unchanged]
    · rw [succeedFrom_unusable (c := copyAtStart 0x02 s) hm (by rw [anchor]; exact ha), post_unchanged]
    · have usable : Usable ((damage ds s).copied 0x02) (successor s.commandBlock o x).anchor key := by
        rw [Usable, anchor]; exact ha
      rw [succeedFrom_usable (c := copyAtStart 0x02 s) hm usable, entry]
      refine ⟨fun hf => by rw [if_pos hf, post_unchanged], fun hr => ?_⟩
      rw [if_neg (Nat.not_le_of_lt hr)]
      refine ⟨fun hn => ?_, fun k hk => ?_⟩
      · rw [takeSlot_full (s := (damage ds s).copied 0x02) (fun k hk => hn k ((damage_free ds s k).1 hk)), post_unchanged]
      · rw [takeSlot_lowest (s := (damage ds s).copied 0x02) ⟨(damage_free ds s k).2 hk.free,
          fun j hj e => hk.lowest j hj ((damage_free ds s j).1 e)⟩]
        rfl

/-! ## The completion of the unwrap -/

theorem exec_unwrapCompletion {s : State} {u : Unwrap} {c : CommandCopy} {x : Context} (hr : s.power = .running)
    (hu : s.unit = .unwrapping u) (hc : s.copy = some c) (hx : s.slot u.slot = some x) :
    exec .unwrapCompletion s = .next (finishUnwrap c u x s) := by
  simp only [exec, execUnwrapCompletion, whenRunning_running hr, completeUnwrap, hu, hc, hx]

/-- Settles O39. -/
theorem unwrapCompletesOneOfThreeWays : Obligations.UnwrapCompletesOneOfThreeWays := by
  intro s u c x hr hu hc hx
  rw [exec_unwrapCompletion hr hu hc hx]
  refine ⟨fun hn => by simp only [finishUnwrap, hn]; rfl, fun key hk => ?_⟩
  have written : s.updateSlot u.slot (writeKey key) = s.setSlot u.slot (some (writeKey key x)) := updateSlot_of_some hx
  have marker : ∀ j, slotMarker (s.setSlot u.slot (some (writeKey key x))) j = slotMarker s j := fun j =>
    written ▸ slotMarker_writeKey s u.slot j key
  have finish : finishUnwrap c u x s = recheckAndBind c u x (s.setSlot u.slot (some (writeKey key x))) := by
    simp only [finishUnwrap, hk, written]
  rw [finish]
  refine ⟨fun r hf => ⟨pairReport (s.setSlot u.slot (some (writeKey key x))) x.tag, ?_⟩, fun ha => ?_⟩
  · have fails : AdmissionFails (s.setSlot u.slot (some (writeKey key x))) x.tag u.standby x.marker r := by
      simp only [AdmissionFails, entry_setSlot, marker]
      exact hf
    simp only [recheckAndBind, admissionTest_of_fails fails, freeSlot_setSlot]
    rfl
  · have admits : Admits (s.setSlot u.slot (some (writeKey key x))) x.tag u.standby x.marker :=
      ⟨ha.room, ha.place, fun b hb => by rw [marker]; exact ha.marker b hb⟩
    simp only [recheckAndBind, admissionTest_of_admits admits, bindSlot]
    rw [updateSlot_of_some (slot_setSlot_self _ _ _), setSlot_setSlot]
    rfl

end Sys2Proof.Machine
end

section
/-! PROOFS. ACTIVATE and the roll-over with its reads. -/

namespace Sys2Proof.Machine
open Sys2Proof

/-! ## Roll-over with its reads -/

/-- A record check on one slot leaves the others. -/
theorem recordCheck_slot_ne (p : CondPhase) (q : Option SeqNo) {k j : SlotNo} (h : k ≠ j) (s : State) :
    (recordCheck p q k s).slot j = s.slot j := by
  rcases recordCheck_cases p q k s with e | ⟨c, g, -, -, e⟩ <;> rw [e]
  rw [quarantine_slot, if_neg h]

theorem recordCheck_entry (p : CondPhase) (q : Option SeqNo) (k : SlotNo) (s : State) (t : Tag) :
    (recordCheck p q k s).entry t = s.entry t := entry_of_dir (recordCheck_dir p q k s) t

theorem partnerOf_alone {s : State} {t : Tag} {k : SlotNo} (he : s.entry t = ⟨none, some k, none⟩) :
    partnerOf s t k = none := by simp [partnerOf, he, DirEntry.bound]

/-- The roll-over of a STANDBY alone under its tag, whose record passes (R37, R38). -/
theorem rollOver_alone_passed {s : State} {k : SlotNo} {c : Context} (hc : s.slot k = some c) (hs : c.state = .standby)
    (he : s.entry c.tag = ⟨none, some k, none⟩) (hg : failingGroup c = none) (p : CondPhase) (q : Option SeqNo) :
    rollOver p q k s = (s.setSlot k (some (promote c))).setEntry c.tag ⟨some k, none, none⟩ := by
  have passed : recordCheck p q k s = s := recordCheck_intact ⟨hc, hg⟩
  have standby : s.slotIs k .standby = true := slotIs_iff.2 ⟨c, hc, hs⟩
  simp only [rollOver, hc, hs, if_true, partnerOf_alone he, recordCheckSome, passed, standby, swapRoles_alone he]
  rw [updateSlot_of_some hc]

/-- The roll-over of a STANDBY with a partner, whose record passes: the partner's read follows, and the roles are
changed whatever it finds (R37, R38). -/
theorem rollOver_pair_passed {s : State} {k j : SlotNo} {c : Context} (hj : j ≠ k) (hc : s.slot k = some c)
    (hs : c.state = .standby)
    (he : s.entry c.tag = ⟨some j, some k, none⟩ ∨ s.entry c.tag = ⟨none, some k, some j⟩)
    (hg : failingGroup c = none) (p : CondPhase) (q : Option SeqNo) :
    rollOver p q k s = (((recordCheck p q j s).updateSlot j demote).setSlot k (some (promote c))).setEntry c.tag
      ⟨some k, none, some j⟩ := by
  have passed : recordCheck p q k s = s := recordCheck_intact ⟨hc, hg⟩
  have slot : (recordCheck p q j s).slot k = some c := (recordCheck_slot_ne p q hj s).trans hc
  have standby : (recordCheck p q j s).slotIs k .standby = true := slotIs_iff.2 ⟨c, slot, hs⟩
  have swapped := swapRoles_pair (s := recordCheck p q j s) (t := c.tag) hj (by rw [recordCheck_entry]; exact he)
  rw [updateSlot_of_some ((slot_updateSlot_ne _ hj demote).trans slot)] at swapped
  simp only [rollOver, hc, hs, if_true, partnerOf_pair hj he, recordCheckSome, passed, standby, swapped]

/-- A partner whose record passes is demoted (R37). -/
theorem recordCheck_demote_passed {s : State} {j : SlotNo} {d : Context} (hd : s.slot j = some d)
    (hg : failingGroup d = none) (p : CondPhase) (q : Option SeqNo) :
    (recordCheck p q j s).updateSlot j demote = s.setSlot j (some (demote d)) := by
  rw [recordCheck_intact ⟨hd, hg⟩, updateSlot_of_some hd]

/-- A partner whose record fails is QUARANTINED, and so keeps its record (R37, R38). -/
theorem recordCheck_demote_failed {s : State} {j : SlotNo} {d : Context} {g : CheckGroup} (hd : s.slot j = some d)
    (hg : failingGroup d = some g) (p : CondPhase) (q : Option SeqNo) :
    (recordCheck p q j s).updateSlot j demote = quarantine p q g j s := by
  have quarantined : (quarantine p q g j s).slot j = some (quarantinedContext d) := quarantine_slot_self hd
  have kept : demote (quarantinedContext d) = quarantinedContext d := if_neg CtxState.noConfusion
  rw [recordCheck_fail (by rw [hd]; exact hg), updateSlot_of_some quarantined, kept, ← quarantined, setSlot_self]

/-- No roll-over is made of a STANDBY whose record fails; its partner is read all the same (R38). -/
theorem rollOver_failed {s : State} {k : SlotNo} {c : Context} {g : CheckGroup} (hc : s.slot k = some c)
    (hs : c.state = .standby) (hg : failingGroup c = some g) (p : CondPhase) (q : Option SeqNo) :
    rollOver p q k s = recordCheckSome p q (partnerOf s c.tag k) (quarantine p q g k s) := by
  have failed : recordCheck p q k s = quarantine p q g k s := recordCheck_fail (by rw [hc]; exact hg)
  have quarantined : (quarantine p q g k s).slot k = some (quarantinedContext c) := quarantine_slot_self hc
  have not_standby :
      ¬(recordCheckSome p q (partnerOf s c.tag k) (quarantine p q g k s)).slotIs k .standby = true := by
    intro h
    obtain ⟨d, hd, hs⟩ := slotIs_iff.1 h
    rcases recordCheckSome_slot p q (partnerOf s c.tag k) k (quarantine p q g k s) with e | e <;>
      rw [e, quarantined] at hd <;> cases hd <;> cases hs
  simp only [rollOver, hc, hs, if_true, failed, not_standby]
  rfl

/-! ## ACTIVATE -/

theorem exec_activate_open {s : State} (h : Unlocked s) (hl : slotLocked s s.namedSlot = false) (ds : List Damage) :
    exec (.activate ds) s = .next (activateSlot (copyAtStart 0x03 s) s.namedSlot ((damage ds s).copied 0x03)) := by
  simp only [exec, execActivate, writeStart_ready h.toCommandReady, runActivate]
  rw [damage_copied, onSlot_open h ((slotLocked_copied ds s _ _).trans hl)]

theorem activateSlot_standby {s : State} {k : SlotNo} {c : Context} (hc : s.slot k = some c) (hs : c.state = .standby)
    (copy : CommandCopy) : activateSlot copy k s = activateDone copy k (rollOver .command none k s) :=
  if_pos (slotIs_iff.2 ⟨c, hc, hs⟩)

theorem activateSlot_other {s : State} {k : SlotNo} (h : s.slotIs k .standby = false) (copy : CommandCopy) :
    activateSlot copy k s = post copy .badState [] s := if_neg (by rw [h]; exact Bool.false_ne_true)

theorem activateDone_made {s : State} {k : SlotNo} {c : Context} (hc : s.slot k = some c) (hs : c.state = .active)
    (copy : CommandCopy) : activateDone copy k s = post copy .done (activateReport k s) s :=
  if_pos (slotIs_iff.2 ⟨c, hc, hs⟩)

theorem activateDone_failed {s : State} {k : SlotNo} {c : Context} (hc : s.slot k = some (quarantinedContext c))
    (copy : CommandCopy) : activateDone copy k s = post copy .badState [] s := by
  refine if_neg fun h => ?_
  obtain ⟨d, hd, hs⟩ := slotIs_iff.1 h
  cases hc.symm.trans hd
  cases hs

theorem activateReport_alone {s : State} {k : SlotNo} {c : Context} (hc : s.slot k = some c)
    (he : s.entry c.tag = ⟨some k, none, none⟩) : activateReport k s = [slotByte k] := by
  simp [activateReport, hc, partnerOf, he, DirEntry.bound]

theorem activateReport_pair {s : State} {k j : SlotNo} {c d : Context} (hj : j ≠ k) (hc : s.slot k = some c)
    (he : s.entry c.tag = ⟨some k, none, some j⟩) (hd : s.slot j = some d) :
    activateReport k s = [slotByte k, slotByte j, ctxStateByte d.state] := by
  simp [activateReport, hc, partnerOf, he, DirEntry.bound, hj, hd, slotStateByte]

/-- ACTIVATE completes DONE after a roll-over that was made (R168). -/
theorem activateDone_answered {s u : State} {k : SlotNo} {c : Context} {f : List Byte} (hc : u.slot k = some c)
    (hs : c.state = .active) (report : activateReport k u = f) (hb : u.commandBlock = s.commandBlock)
    (hl : u.lockLine = s.lockLine) :
    activateDone (copyAtStart 0x03 s) k (u.copied 0x03) = u.answered 0x03 .done f := by
  rw [activateDone_made (s := u.copied 0x03) hc hs, show activateReport k (u.copied 0x03) = f from report]
  exact post_answered hb hl

/-- ACTIVATE completes BAD_STATE after a roll-over that was not made (R38, R168). -/
theorem activateDone_refused {s u : State} {k : SlotNo} {c : Context} (hc : u.slot k = some (quarantinedContext c))
    (hb : u.commandBlock = s.commandBlock) (hl : u.lockLine = s.lockLine) :
    activateDone (copyAtStart 0x03 s) k (u.copied 0x03) = u.answered 0x03 .badState [] := by
  rw [activateDone_failed (s := u.copied 0x03) hc]
  exact post_answered hb hl

/-- What the roll-over of a pair leaves, given the partner as it was read. -/
def rolledOver (k p : SlotNo) (c : Context) (u : State) : State :=
  (u.setSlot k (some (promote c))).setEntry c.tag ⟨some k, none, some p⟩

theorem activateDone_rolledOver {s u : State} {k p : SlotNo} {c d : Context} {f : List Byte} (hp : p ≠ k)
    (hd : u.slot p = some d) (formed : u.dir.Pairwise fun a b => a.1 < b.1) (hb : u.commandBlock = s.commandBlock)
    (hl : u.lockLine = s.lockLine) (hf : [slotByte k, slotByte p, ctxStateByte d.state] = f) :
    activateDone (copyAtStart 0x03 s) k ((rolledOver k p c u).copied 0x03) =
      (rolledOver k p c u).answered 0x03 .done f := by
  have promoted : (rolledOver k p c u).slot k = some (promote c) := slot_setSlot_self u k _
  have partner : (rolledOver k p c u).slot p = some d := (slot_setSlot_ne u hp.symm _).trans hd
  have entry : (rolledOver k p c u).entry (promote c).tag = ⟨some k, none, some p⟩ :=
    (entry_setEntry (u.setSlot k (some (promote c))) c.tag c.tag _ formed).trans (if_pos rfl)
  exact activateDone_answered promoted rfl ((activateReport_pair hp promoted entry partner).trans hf) hb hl

section
variable {s x : State} {k : SlotNo} {c : Context}

theorem activateSlot_alone_passed (hc : x.slot k = some c) (hs : c.state = .standby)
    (he : x.entry c.tag = ⟨none, some k, none⟩) (formed : x.dir.Pairwise fun a b => a.1 < b.1) (hg : failingGroup c = none)
    (hb : x.commandBlock = s.commandBlock) (hl : x.lockLine = s.lockLine) :
    activateSlot (copyAtStart 0x03 s) k (x.copied 0x03) =
      ((x.setSlot k (some (promote c))).setEntry c.tag ⟨some k, none, none⟩).answered 0x03 .done [slotByte k] := by
  have promoted : ((x.setSlot k (some (promote c))).setEntry c.tag ⟨some k, none, none⟩).slot k = some (promote c) :=
    slot_setSlot_self x k _
  have entry : ((x.setSlot k (some (promote c))).setEntry c.tag ⟨some k, none, none⟩).entry (promote c).tag =
      ⟨some k, none, none⟩ :=
    (entry_setEntry (x.setSlot k (some (promote c))) c.tag c.tag _ formed).trans (if_pos rfl)
  rw [activateSlot_standby (s := x.copied 0x03) hc hs, rollOver_alone_passed (s := x.copied 0x03) hc hs he hg]
  exact activateDone_answered promoted rfl (activateReport_alone promoted entry) hb hl

theorem activateSlot_alone_failed {g : CheckGroup} (hc : x.slot k = some c) (hs : c.state = .standby)
    (he : x.entry c.tag = ⟨none, some k, none⟩) (hg : failingGroup c = some g)
    (hb : x.commandBlock = s.commandBlock) (hl : x.lockLine = s.lockLine) :
    activateSlot (copyAtStart 0x03 s) k (x.copied 0x03) =
      (quarantine .command none g k x).answered 0x03 .badState [] := by
  rw [activateSlot_standby (s := x.copied 0x03) hc hs, rollOver_failed (s := x.copied 0x03) hc hs hg,
    partnerOf_alone (s := x.copied 0x03) he, recordCheckSome, quarantine_copied]
  exact activateDone_refused (quarantine_slot_self hc) ((quarantine_commandBlock ..).trans hb)
    ((quarantine_lockLine ..).trans hl)

variable {p : SlotNo} {q : Context} (hp : p ≠ k) (hq : x.slot p = some q) (hc : x.slot k = some c)
  (hs : c.state = .standby) (hb : x.commandBlock = s.commandBlock) (hl : x.lockLine = s.lockLine)
  (he : x.entry c.tag = ⟨some p, some k, none⟩ ∨ x.entry c.tag = ⟨none, some k, some p⟩)
include hp hq hc hs hb hl he

theorem activateSlot_pair_passed (formed : x.dir.Pairwise fun a b => a.1 < b.1) (hg : failingGroup c = none)
    (hgq : failingGroup q = none) :
    activateSlot (copyAtStart 0x03 s) k (x.copied 0x03) =
      (rolledOver k p c (x.setSlot p (some (demote q)))).answered 0x03 .done
        [slotByte k, slotByte p, ctxStateByte (demote q).state] := by
  rw [activateSlot_standby (s := x.copied 0x03) hc hs, rollOver_pair_passed (s := x.copied 0x03) hp hc hs he hg,
    recordCheck_demote_passed (s := x.copied 0x03) hq hgq]
  exact activateDone_rolledOver hp (slot_setSlot_self x p _) formed hb hl rfl

theorem activateSlot_pair_partner_failed {g : CheckGroup} (formed : x.dir.Pairwise fun a b => a.1 < b.1)
    (hg : failingGroup c = none) (hgq : failingGroup q = some g) :
    activateSlot (copyAtStart 0x03 s) k (x.copied 0x03) =
      (rolledOver k p c (quarantine .command none g p x)).answered 0x03 .done [slotByte k, slotByte p, 0x06] := by
  rw [activateSlot_standby (s := x.copied 0x03) hc hs, rollOver_pair_passed (s := x.copied 0x03) hp hc hs he hg,
    recordCheck_demote_failed (s := x.copied 0x03) hq hgq, quarantine_copied]
  exact activateDone_rolledOver hp (quarantine_slot_self hq) ((quarantine_dir .command none g p x).symm ▸ formed)
    ((quarantine_commandBlock ..).trans hb) ((quarantine_lockLine ..).trans hl) rfl

theorem activateSlot_pair_failed {g : CheckGroup} (hg : failingGroup c = some g) (hgq : failingGroup q = none) :
    activateSlot (copyAtStart 0x03 s) k (x.copied 0x03) =
      (quarantine .command none g k x).answered 0x03 .badState [] := by
  have partner : (quarantine .command none g k x).slot p = some q := by rw [quarantine_slot, if_neg hp.symm]; exact hq
  rw [activateSlot_standby (s := x.copied 0x03) hc hs, rollOver_failed (s := x.copied 0x03) hc hs hg,
    partnerOf_pair (s := x.copied 0x03) hp he, recordCheckSome, quarantine_copied, recordCheck_copied_pass partner hgq]
  exact activateDone_refused (quarantine_slot_self hc) ((quarantine_commandBlock ..).trans hb)
    ((quarantine_lockLine ..).trans hl)

theorem activateSlot_pair_both_failed {g g' : CheckGroup} (hg : failingGroup c = some g)
    (hgq : failingGroup q = some g') :
    activateSlot (copyAtStart 0x03 s) k (x.copied 0x03) =
      (quarantine .command none g' p (quarantine .command none g k x)).answered 0x03 .badState [] := by
  have partner : (quarantine .command none g k x).slot p = some q := by rw [quarantine_slot, if_neg hp.symm]; exact hq
  have kept : (quarantine .command none g' p (quarantine .command none g k x)).slot k = some (quarantinedContext c) := by
    rw [quarantine_slot, if_neg hp]; exact quarantine_slot_self hc
  rw [activateSlot_standby (s := x.copied 0x03) hc hs, rollOver_failed (s := x.copied 0x03) hc hs hg,
    partnerOf_pair (s := x.copied 0x03) hp he, recordCheckSome, quarantine_copied, recordCheck_copied_fail partner hgq]
  exact activateDone_refused kept (by simp [hb]) (by simp [hl])

end

/-- Settles O40. The named slot's record and its partner's are read at the start; each of the six outcomes of the two
reads is a lemma of its own. -/
theorem activateRollsOver : Obligations.ActivateRollsOver := by
  intro s ds h hl
  rw [exec_activate_open h hl]
  have block := damage_commandBlock ds s
  have line := damage_lockLine ds s
  have entry := damage_entry ds s
  refine ⟨fun hn => ?_, fun c hc hs formed _ => ?_⟩
  · rw [activateSlot_other (s := (damage ds s).copied 0x03) ((damage_slotIs ds s _ _).trans hn), post_unchanged]
  · have ordered : (damage ds s).dir.Pairwise fun a b => a.1 < b.1 := (damage_dir ds s).symm ▸ formed.1
    refine ⟨fun he => ?_, fun p q hp hq he => ?_⟩
    · have alone := (entry c.tag).trans he
      exact ⟨fun hg => congrArg _ (activateSlot_alone_passed hc hs alone ordered hg block line),
        fun g hg => congrArg _ (activateSlot_alone_failed hc hs alone hg block line)⟩
    · have pair : (damage ds s).entry c.tag = ⟨some p, some s.namedSlot, none⟩ ∨
          (damage ds s).entry c.tag = ⟨none, some s.namedSlot, some p⟩ := by rw [entry]; exact he
      exact ⟨fun hg hgq => congrArg _ (activateSlot_pair_passed hp hq hc hs block line pair ordered hg hgq),
        fun g hg hgq => congrArg _ (activateSlot_pair_partner_failed hp hq hc hs block line pair ordered hg hgq),
        fun g hg hgq => congrArg _ (activateSlot_pair_failed hp hq hc hs block line pair hg hgq),
        fun g g' hg hgq => congrArg _ (activateSlot_pair_both_failed hp hq hc hs block line pair hg hgq)⟩

end Sys2Proof.Machine
end

section
/-! PROOFS. The dispatch checks, the dispatch to a lane, and a record check that fails at the lookup. -/

namespace Sys2Proof.Machine
open Sys2Proof

/-! ## The checks under a slot -/

section
variable {s : State} {k : SlotNo} {c : Context} {h : JobHeader} (hc : s.slot k = some c)
include hc

/-- Check 5 fails (R80). -/
theorem slotChecks_held (hh : c.state = .quarantined ∨ heldByRecord s k = true) : slotChecks h k s = some .held := by
  have held : slotHeld s k = true := by rw [slotHeld_of_slot hc]; simpa using hh
  simp [slotChecks, hc, held]

section
variable (hs : c.state ≠ .quarantined) (hh : heldByRecord s k = false)
include hs hh

theorem slotHeld_free : slotHeld s k = false := by rw [slotHeld_of_slot hc]; simpa [hh] using hs

/-- Check 6 fails (R81). -/
theorem slotChecks_direction (hd : directionAllowed c.settings.direction h.dir = false) :
    slotChecks h k s = some .direction := by
  simp [slotChecks, hc, slotHeld_free hc hs hh, hd]

variable (hd : directionAllowed c.settings.direction h.dir = true)
include hd

/-- Check 7 fails (R81). -/
theorem slotChecks_recipe (hr : c.settings.recipes.getLsbD h.recipe.val = false) :
    slotChecks h k s = some .recipeDenied := by
  simpa [slotChecks, hc, slotHeld_free hc hs hh, hd] using hr

theorem slotChecks_passed (hr : c.settings.recipes.getLsbD h.recipe.val = true) : slotChecks h k s = none := by
  simp only [slotChecks, hc, slotHeld_free hc hs hh, hd, hr]
  rfl

end

end

theorem foundSpent_iff {c : Context} {n : Nat} :
    foundSpent c n = true ↔ c.spent = true ∨ c.settings.ceiling < c.nextSeq ∨ c.lifeLeft.toNat < n := by
  simp [foundSpent, or_assoc]

section
variable {s : State} {k : SlotNo} {h : JobHeader} {dr : List Damage} {n : Nat}

theorem checksUnder_refused {v : Verdict} (hv : slotChecks h k s = some v) :
    checksUnder dr h n k s = (s, .refuse v (some k)) := by simp only [checksUnder, hv]

theorem checksUnder_admit (hp : slotChecks h k s = none) (hd : h.dir = .toAdmit) :
    checksUnder dr h n k s = (s, .accept k) := by simp only [checksUnder, hp, hd]

variable {c : Context} (hc : s.slot k = some c)
include hc

theorem checksUnder_unspent (hp : slotChecks h k s = none) (hd : h.dir = .toProtect) (hs : foundSpent c n = false) :
    checksUnder dr h n k s = (s, .accept k) := by
  simp [checksUnder, hp, hd, hc, hs]

theorem checksUnder_spent (hp : slotChecks h k s = none) (hd : h.dir = .toProtect) (hs : foundSpent c n = true) :
    checksUnder dr h n k s = spentSlot dr h n k s := by
  simp [checksUnder, hp, hd, hc, hs]

end

/-! ## What the checks decide, carried out -/

theorem settleDispatch_refuse (w : FrameWord) (h : JobHeader) (d : RecipeDef) (layout : List (StepKind × Nat)) (s : State)
    (v : Verdict) (k : SlotNo) :
    settleDispatch w h d layout (s, .refuse v (some k)) = (s.countingRefusal k).refusing w h v (some k) := rfl

theorem settleDispatch_accept (w : FrameWord) (h : JobHeader) (d : RecipeDef) (layout : List (StepKind × Nat)) (s : State)
    (k : SlotNo) :
    settleDispatch w h d layout (s, .accept k) =
      (reserve h.dir (metered layout) k s).toLane w
        (dispatchedJob s h d layout k (entryMarker h k s) (reservedSeq h.dir k s)) (chooseLane s) :=
  dispatchToLane_eq w (newJob h d layout k s) (metered layout) s

theorem dispatchedJob_damage (ds : List Damage) (s : State) (h : JobHeader) (d : RecipeDef)
    (layout : List (StepKind × Nat)) (k : SlotNo) (m : Bool) (q : SeqNo) :
    dispatchedJob (damage ds s) h d layout k m q = dispatchedJob s h d layout k m q := by
  rw [dispatchedJob, damage_nextJob]; rfl

theorem chooseLane_damage (ds : List Damage) (s : State) : chooseLane (damage ds s) = chooseLane s := by
  simp [chooseLane]

theorem entryMarker_protect {s : State} {k : SlotNo} {c : Context} {h : JobHeader} (hc : s.slot k = some c)
    (hd : h.dir = .toProtect) : entryMarker h k s = c.marker := by simp only [entryMarker, hd, hc]

theorem reservedSeq_protect {s : State} {k : SlotNo} {c : Context} (hc : s.slot k = some c) :
    reservedSeq .toProtect k s = c.nextSeq := by simp only [reservedSeq, hc]

theorem lifeLow_iff {c : Context} :
    lifeLow c = true ↔ c.settings.lowMark ≠ 0 ∧ c.lifeLeft ≤ c.settings.lowMark ∧ c.lowReported = false := by
  simp [lifeLow, and_assoc]

theorem testLifeLow_eq {s : State} {k : SlotNo} {c : Context} (hc : s.slot k = some c) (seq : SeqNo) :
    testLifeLow k seq s =
      if c.settings.lowMark ≠ 0 ∧ c.lifeLeft ≤ c.settings.lowMark ∧ c.lowReported = false then
        raiseOn { cls := .lifeLow, phase := some .dispatch, seq := some seq } k
          (s.updateSlot k fun c => { c with lowReported := true })
      else s := by
  simp only [testLifeLow, hc, Option.any_some, lifeLow_iff]

/-- Settles O13. -/
theorem admitDispatchedToLane : Obligations.AdmitDispatchedToLane := by
  intro s w0 w ds dr d layout k c h hd hi ha
  have marker : entryMarker (jobHeaderOf w0 w.data) k (damage ds s) = (jobHeaderOf w0 w.data).marker := by
    simp only [entryMarker, hd]
  rw [exec_jobHeader_found h, recordCheck_intact hi, checksUnder_admit (slotChecks_admissible hi ha) hd,
    settleDispatch_accept, dispatchedJob_damage, chooseLane_damage, marker, hd]
  rfl

/-- Settles O12. -/
theorem protectDispatchedToLane : Obligations.ProtectDispatchedToLane := by
  intro s w0 w ds dr d layout k c h hd hi ha hs hn hm
  have fresh : foundSpent c (metered layout) = false := by
    rw [← Bool.not_eq_true, foundSpent_iff, BitVec.lt_def]
    rw [BitVec.le_def] at hn
    simp [hs]; omega
  have charged : (damage ds s).updateSlot k (chargeContext (metered layout)) =
      (damage ds s).updateSlot k fun x =>
        { x with nextSeq := x.nextSeq + 1, lifeLeft := c.lifeLeft - BitVec.ofNat 40 (metered layout) } := by
    rw [updateSlot_of_some hi.1, updateSlot_of_some hi.1]; rfl
  have slot : ((damage ds s).updateSlot k (chargeContext (metered layout))).slot k =
      some (chargeContext (metered layout) c) := by rw [slot_updateSlot_self, hi.1]; rfl
  rw [exec_jobHeader_found h, recordCheck_intact hi,
    checksUnder_unspent hi.1 (slotChecks_admissible hi ha) hd fresh, settleDispatch_accept, dispatchedJob_damage,
    chooseLane_damage, entryMarker_protect hi.1 hd, hd, reservedSeq_protect hi.1, reserve, reservedSeq_protect hi.1,
    testLifeLow_eq slot, charged]
  rfl

/-! ## Quarantine, read from outside -/

theorem quarantine_cond_ne (p : CondPhase) (q : Option SeqNo) (g : CheckGroup) {k j : SlotNo} (h : k ≠ j) (s : State) :
    (quarantine p q g k s).cond j = s.cond j := by
  rw [quarantine, applyEnding_cond, if_neg h, raiseOn_cond, if_neg fun e => h e.1]
  rfl

theorem severity_worse (a b : Ending) : severity b ≤ severity (worse a b) := by
  unfold worse; split <;> omega

/-- The raise that a quarantine makes (R23). -/
def checkRaise (p : CondPhase) (q : Option SeqNo) (g : CheckGroup) : Raise :=
  { cls := .recordCheck, hold := true, phase := some p, seq := q, group := some g }

/-- The Condition Record of a slot that is quarantined: it holds, names RECORD_CHECK, and its ending is CUT or worse; one
that it did not have before is the raise's own (R23, R138, R141). -/
theorem quarantine_cond_self {p : CondPhase} {q : Option SeqNo} {g : CheckGroup} {k : SlotNo} {s : State} {c : Context}
    (hc : s.slot k = some c) :
    ∃ r, (quarantine p q g k s).cond k = some r ∧ r.holding = true ∧ r.classes.getLsbD 0 = true ∧
      severity .cut ≤ severity r.ending ∧
      (s.cond k = none → r = { newRecord (checkRaise p q g) with ending := .cut }) := by
  set u := endJobs (openJobs k s) .aborted (s.updateSlot k quarantinedContext) with hu
  have slot : u.slot k = some (quarantinedContext c) := by rw [hu, endJobs_slot, slot_updateSlot_self, hc]; rfl
  have raised : raisable u k = true := raisable_iff.2 ⟨_, slot, CtxState.noConfusion⟩
  have cond : u.cond k = s.cond k := rfl
  have e : (quarantine p q g k s).cond k =
      ((raiseOn (checkRaise p q g) k u).cond k).map fun r => { r with ending := worse r.ending .cut } :=
    (applyEnding_cond ..).trans (if_pos rfl)
  rw [raiseOn_cond, if_pos ⟨rfl, raised⟩, cond] at e
  cases hr : s.cond k with
  | none =>
    rw [hr] at e
    exact ⟨_, e, rfl, by simp [newRecord, checkRaise, condClassBit], severity_worse .noEnding .cut, fun _ => rfl⟩
  | some r =>
    rw [hr] at e
    refine ⟨_, e, by simp [mergeRaise, checkRaise], ?_, severity_worse r.ending .cut, fun h => by cases h⟩
    simp [mergeRaise, checkRaise, condClassBit]

/-- An unreleased LANE entry of a quarantined slot is ENDED ABORTED, unless it was ENDED before (R23, R105). -/
theorem quarantine_ends {p : CondPhase} {q : Option SeqNo} {g : CheckGroup} {k : SlotNo} {s : State} {e : LaneEntry}
    (he : .lane e ∈ s.queue) (hk : e.job.slot = k) (hs : ∀ v, e.status ≠ .ended v) :
    .lane { e with status := .ended .aborted } ∈ (quarantine p q g k s).queue := by
  have open_job : openJob k (.lane e) = some e.job.id := by
    cases ht : e.status with
    | ended v => exact absurd ht (hs v)
    | _ => simp only [openJob, ht, hk, if_true]
  have listed : (openJobs k s).contains e.job.id = true :=
    List.contains_iff_mem.2 (List.mem_filterMap.2 ⟨_, he, open_job⟩)
  have ended : endEntry (openJobs k s) .aborted (.lane e) = .lane { e with status := .ended .aborted } := by
    cases ht : e.status with
    | ended v => exact absurd ht (hs v)
    | _ => simp only [endEntry, ht, listed, if_true]
  have queue : (quarantine p q g k s).queue = s.queue.map (endEntry (openJobs k s) .aborted) := by
    simp [quarantine, endJobs]
  rw [queue, ← ended]
  exact List.mem_map_of_mem he

/-- Settles O10. -/
theorem lookupCheckFailureQuarantines : Obligations.LookupCheckFailureQuarantines := by
  intro s w0 w ds dr d layout k c g h hc hg
  have failed : recordCheck .dispatch none k (damage ds s) = quarantine .dispatch none g k (damage ds s) :=
    recordCheck_fail (by rw [hc]; exact hg)
  set u := quarantine .dispatch none g k (damage ds s) with hu
  have slot : u.slot k = some (quarantinedContext c) := quarantine_slot_self hc
  refine ⟨_, by rw [exec_jobHeader_found h, failed, checksUnder_refused (slotChecks_held slot (.inl rfl)),
    settleDispatch_refuse], ?_, fun j hj => ⟨?_, ?_⟩, fun e he hk hs => ?_, ?_, ?_, ?_, ?_, ?_, ?_, ?_⟩
  · exact (slot_updateSlot_self u k _).trans (by rw [slot]; rfl)
  · exact (slot_updateSlot_ne u (Ne.symm hj) _).trans
      ((quarantine_slot ..).trans (if_neg (Ne.symm hj)))
  · exact (quarantine_cond_ne _ _ _ (Ne.symm hj) _).trans (damage_cond ds s j)
  · exact List.mem_append_left _ (quarantine_ends (by rw [damage_queue]; exact he) hk hs)
  · obtain ⟨r, hr, holds, bit, ending, fresh⟩ := quarantine_cond_self (p := .dispatch) (q := none) (g := g) hc
    refine ⟨r, hr, holds, bit, ending, fun hn => ?_⟩
    rw [fresh ((damage_cond ds s k).trans hn)]
    exact ⟨rfl, rfl, rfl⟩
  · exact List.getLast?_concat
  · exact (quarantine_dir ..).trans (damage_dir ds s)
  · exact (quarantine_recipes ..).trans (damage_recipes ds s)
  · exact (quarantine_anchors ..).trans (damage_anchors ds s)
  · exact (quarantine_locks ..).trans (damage_locks ds s)
  · exact (quarantine_sending ..).trans (damage_sending ds s)

end Sys2Proof.Machine
end

section
/-! PROOFS. A protect under a slot found spent. -/

namespace Sys2Proof.Machine
open Sys2Proof

/-! ## A slot found spent -/

theorem exec_jobHeader_spent {s : State} {w0 : Word} {w : FrameWord} {d : RecipeDef} {layout : List (StepKind × Nat)}
    {k : SlotNo} {c : Context} {ds : List Damage} (h : HeaderFinds s w0 w d layout k)
    (hd : (jobHeaderOf w0 w.data).dir = .toProtect) (hi : Intact (damage ds s) k c)
    (ha : Admissible s (jobHeaderOf w0 w.data) k c)
    (hs : c.spent = true ∨ c.settings.ceiling < c.nextSeq ∨ c.lifeLeft.toNat < metered layout) (dr : List Damage) :
    exec (.jobHeader w ds dr) s = .next (settleDispatch w (jobHeaderOf w0 w.data) d layout
      (spentSlot dr (jobHeaderOf w0 w.data) (metered layout) k (damage ds s))) := by
  rw [exec_jobHeader_found h, recordCheck_intact hi,
    checksUnder_spent hi.1 (slotChecks_admissible hi ha) hd (foundSpent_iff.2 hs)]

/-- A record marked spent. -/
def spentContext (c : Context) : Context := { c with spent := true }

theorem markSpent_slot_self {s : State} {k : SlotNo} {c : Context} (hc : s.slot k = some c) :
    (markSpent k s).slot k = some (spentContext c) := (slot_updateSlot_self ..).trans (by rw [hc]; rfl)

theorem markSpent_slot_ne {j k : SlotNo} (hj : j ≠ k) (s : State) : (markSpent k s).slot j = s.slot j :=
  slot_updateSlot_ne s hj.symm _

theorem markSpent_slotIs (j k : SlotNo) (s : State) (x : CtxState) : (markSpent k s).slotIs j x = s.slotIs j x := by
  rcases eq_or_ne j k with rfl | hj
  · simp only [State.slotIs, markSpent, slot_updateSlot_self]
    cases s.slot j <;> rfl
  · simp only [State.slotIs, markSpent_slot_ne hj]

theorem damage_markSpent_ne {j k : SlotNo} (hj : j ≠ k) (dr : List Damage) (s : State) :
    (damage dr (markSpent k s)).slot j = (damage dr s).slot j := by
  rw [damage_slot, damage_slot, markSpent_slot_ne hj]

theorem damage_markSpent_self {k : SlotNo} {x : Context} {dr : List Damage} {s : State}
    (hx : (damage dr s).slot k = some x) : (damage dr (markSpent k s)).slot k = some (spentContext x) := by
  rw [damage_slot] at hx ⊢
  obtain ⟨c, hc, rfl⟩ := Option.map_eq_some_iff.1 hx
  rw [markSpent_slot_self hc]; rfl

theorem firstSpent_eq {s : State} {k : SlotNo} {c : Context} (hc : s.slot k = some c) : firstSpent s k = !c.spent := by
  simp only [firstSpent, hc]

theorem lifeRollTarget_off {s : State} {k : SlotNo} {c : Context} (hc : s.slot k = some c)
    (h : c.settings.flags.lifeRoll = false ∨ ∀ p, (s.entry c.tag).standby = some p → s.slotIs p .standby = false) :
    lifeRollTarget s k = none := by
  simp only [lifeRollTarget, hc]
  split
  · rename_i on
    have none_standby := h.resolve_left (by simp [on])
    exact Option.filter_eq_none_iff.2 fun p hp => by simp [none_standby p hp]
  · rfl

theorem lifeRollTarget_standby {s : State} {k p : SlotNo} {c : Context} (hc : s.slot k = some c)
    (on : c.settings.flags.lifeRoll = true) (he : (s.entry c.tag).standby = some p) (hs : s.slotIs p .standby = true) :
    lifeRollTarget s k = some p := by
  simp only [lifeRollTarget, hc, on, if_true, he]
  exact Option.filter_some_pos hs

/-- Refused EXHAUSTED, carried out; the statement's own branch tells whether this test set the flag (R11, R82). -/
theorem settleDispatch_exhausted (w : FrameWord) (h : JobHeader) (d : RecipeDef) (layout : List (StepKind × Nat))
    (s : State) (k : SlotNo) (spent : Bool) :
    settleDispatch w h d layout (exhausted (!spent) k s) =
      ((if spent then s else raiseOn { cls := .lifeExhausted, phase := some .dispatch } k s).countingRefusal
        k).refusing w h .exhausted (some k) := by
  cases spent <;> rfl

section
variable {s : State} {k : SlotNo} {c : Context} (hc : s.slot k = some c) (dr : List Damage) (h : JobHeader) (n : Nat)
include hc

theorem spentSlot_no_target
    (off : c.settings.flags.lifeRoll = false ∨
      ∀ p, (s.entry c.tag).standby = some p → (markSpent k s).slotIs p .standby = false) :
    spentSlot dr h n k s = exhausted (!c.spent) k (markSpent k s) := by
  have none_named : lifeRollTarget (markSpent k s) k = none :=
    lifeRollTarget_off (c := spentContext c) (markSpent_slot_self hc) off
  simp only [spentSlot, none_named, firstSpent_eq hc]

variable {p : SlotNo} (on : c.settings.flags.lifeRoll = true)
  (he : s.entry c.tag = ⟨some k, some p, none⟩) (hs : s.slotIs p .standby = true)
include on he hs

theorem spentSlot_target :
    spentSlot dr h n k s =
      (let u := rollOver .dispatch none p (damage dr (markSpent k s))
       if u.slotIs p .active then afterLifeRoll h n p u
       else if u.slotIs k .quarantined then (u, .refuse .held (some k))
       else exhausted (!c.spent) k u) := by
  have named : lifeRollTarget (markSpent k s) k = some p :=
    lifeRollTarget_standby (c := spentContext c) (markSpent_slot_self hc) on
      (congrArg DirEntry.standby he) ((markSpent_slotIs p k s _).trans hs)
  simp only [spentSlot, named, firstSpent_eq hc]

end

/-- A slot with a record is in that record's state. -/
theorem slotIs_of_slot {s : State} {k : SlotNo} {c : Context} (hc : s.slot k = some c) (x : CtxState) :
    s.slotIs k x = (c.state == x) := by simp [State.slotIs, hc]

/-- The outcome of a life roll-over whose STANDBY fails its record check, given the read of the former ACTIVE: no
roll-over is made, and the frame is EXHAUSTED or, with that slot QUARANTINED, HELD (R38, R41). -/
theorem spentSlot_standby_failed {s u : State} {k p : SlotNo} {c q x : Context} {g : CheckGroup} (hc : s.slot k = some c)
    (dr : List Damage) (h : JobHeader) (n : Nat) (on : c.settings.flags.lifeRoll = true) (hp : p ≠ k)
    (he : s.entry c.tag = ⟨some k, some p, none⟩) (hq : (damage dr s).slot p = some q) (ht : q.tag = c.tag)
    (hs : q.state = .standby) (hg : failingGroup q = some g)
    (hu : recordCheck .dispatch none k (quarantine .dispatch none g p (damage dr (markSpent k s))) = u)
    (hx : u.slot k = some x) :
    spentSlot dr h n k s =
      if x.state = .quarantined then (u, .refuse .held (some k)) else exhausted (!c.spent) k u := by
  have standby : s.slotIs p .standby = true := by
    rw [← damage_slotIs dr, slotIs_of_slot hq, hs]; rfl
  have read : (damage dr (markSpent k s)).slot p = some q := (damage_markSpent_ne hp dr s).trans hq
  have entry : (damage dr (markSpent k s)).entry q.tag = ⟨some k, some p, none⟩ := by
    rw [damage_entry, ht]; exact he
  have rolled : rollOver .dispatch none p (damage dr (markSpent k s)) = u := by
    rw [rollOver_failed read hs hg, partnerOf_pair hp.symm (.inl entry), recordCheckSome, hu]
  have failed : u.slot p = some (quarantinedContext q) := by
    rw [← hu, recordCheck_slot_ne _ _ hp.symm]; exact quarantine_slot_self read
  rw [spentSlot_target hc dr h n on he standby, rolled]
  dsimp only
  rw [slotIs_of_slot failed, slotIs_of_slot hx, if_neg (by simp [quarantinedContext])]
  simp only [beq_iff_eq]

/-- Settles O11. -/
theorem spentProtectRefusedExhausted : Obligations.SpentProtectRefusedExhausted := by
  intro s w0 w ds dr d layout k c h hd hi ha hs
  rw [exec_jobHeader_spent h hd hi ha hs]
  have entry := damage_entry ds s c.tag
  refine ⟨fun off => ?_, fun p q g on hp he hq ht hst hg => ?_⟩
  · rw [spentSlot_no_target hi.1 _ _ _ (off.imp_right fun none_standby p hsp => ?_), settleDispatch_exhausted]
    · rfl
    · exact (markSpent_slotIs p k _ _).trans (none_standby p (entry ▸ hsp))
  · have pair : (damage ds s).entry c.tag = ⟨some k, some p, none⟩ := entry.trans he
    have other : ∀ {x : Context}, (damage dr (damage ds s)).slot k = some x →
        (quarantine .dispatch none g p (damage dr (markSpent k (damage ds s)))).slot k = some (spentContext x) :=
      fun hx => (quarantine_slot ..).trans ((if_neg hp).trans (damage_markSpent_self hx))
    refine ⟨fun hk => ?_, fun x g' hx hgx => ?_⟩
    · have slot := other hk.1
      rw [spentSlot_standby_failed hi.1 dr _ _ on hp pair hq ht hst hg
        (recordCheck_intact ⟨slot, hk.2⟩) slot, if_neg (show (spentContext c).state ≠ .quarantined from ha.sound),
        settleDispatch_exhausted]
      rfl
    · have slot := other hx
      rw [spentSlot_standby_failed hi.1 dr _ _ on hp pair hq ht hst hg
        (recordCheck_fail (by rw [slot]; exact hgx)) (quarantine_slot_self slot),
        if_pos (show (quarantinedContext (spentContext x)).state = .quarantined from rfl), settleDispatch_refuse]
      rfl

end Sys2Proof.Machine
end

section
/-! PROOFS. The steps of a life roll-over that is made. -/

namespace Sys2Proof.Machine
open Sys2Proof

/-! ## A life roll-over that is made -/

/-- What a dispatch or refusal under a slot leaves: the directory, the other slots and their records, and of the slot
its state and what its record named before. -/
structure Beside (p : SlotNo) (s t : State) : Prop where
  entry : ∀ x, t.entry x = s.entry x
  slot : ∀ j, j ≠ p → t.slot j = s.slot j
  cond : ∀ j, j ≠ p → t.cond j = s.cond j
  state : ∀ x, t.slotIs p x = s.slotIs p x
  record : ∀ r, s.cond p = some r → ∃ r', t.cond p = some r' ∧
    (∀ i, r.classes.getLsbD i = true → r'.classes.getLsbD i = true) ∧ r'.reason = r.reason

theorem Beside.trans {p : SlotNo} {s t u : State} (a : Beside p s t) (b : Beside p t u) : Beside p s u where
  entry x := (b.entry x).trans (a.entry x)
  slot j hj := (b.slot j hj).trans (a.slot j hj)
  cond j hj := (b.cond j hj).trans (a.cond j hj)
  state x := (b.state x).trans (a.state x)
  record r hr := by
    obtain ⟨r', hr', bits, reason⟩ := a.record r hr
    obtain ⟨r'', hr'', bits', reason'⟩ := b.record r' hr'
    exact ⟨r'', hr'', fun i hi => bits' i (bits i hi), reason'.trans reason⟩

/-- A change that touches neither directory nor slots nor records. -/
theorem Beside.of_same {p : SlotNo} {s t : State} (hd : t.dir = s.dir) (hs : t.slots = s.slots) (hc : t.conds = s.conds) :
    Beside p s t where
  entry := entry_of_dir hd
  slot j _ := slot_of_slots hs j
  cond j _ := cond_of_conds hc j
  state x := by simp only [State.slotIs, slot_of_slots hs]
  record r hr := ⟨r, (cond_of_conds hc p).trans hr, fun _ => id, rfl⟩

theorem Beside.updateSlot (p : SlotNo) (s : State) {f : Context → Context} (hf : ∀ c, (f c).state = c.state) :
    Beside p s (s.updateSlot p f) where
  entry _ := rfl
  slot j hj := slot_updateSlot_ne s hj.symm f
  cond _ _ := rfl
  state x := by
    simp only [State.slotIs, slot_updateSlot_self]
    cases s.slot p with
    | none => rfl
    | some c => exact congrArg (· == x) (hf c)
  record r hr := ⟨r, hr, fun _ => id, rfl⟩

theorem Beside.raise (p : SlotNo) (s : State) (r : Raise) : Beside p s (raiseOn r p s) where
  entry := entry_of_dir (raiseOn_dir r p s)
  slot j _ := raiseOn_slot r p j s
  cond j hj := (raiseOn_cond r p j s).trans (if_neg fun e => hj e.1.symm)
  state x := by simp only [State.slotIs, raiseOn_slot]
  record x hx := by
    rw [raiseOn_cond, hx]
    split
    · exact ⟨_, rfl, fun i hi => by simp [mergeRaise, hi], rfl⟩
    · exact ⟨x, rfl, fun _ => id, rfl⟩

theorem Beside.refused (p : SlotNo) (s : State) (w : FrameWord) (h : JobHeader) (v : Verdict) :
    Beside p s ((s.countingRefusal p).refusing w h v (some p)) :=
  (Beside.updateSlot p s (f := fun c => { c with framesRefused := c.framesRefused + 1 }) fun _ => rfl).trans
    (.of_same rfl rfl rfl)

theorem toLane_same (s : State) (w : FrameWord) (j : Job) (l : LaneId) :
    (s.toLane w j l).dir = s.dir ∧ (s.toLane w j l).conds = s.conds ∧
      (s.toLane w j l).slots = (s.updateSlot j.slot fun c => { c with inFlight := c.inFlight + 1 }).slots := by
  unfold State.toLane
  dsimp only
  cases l <;> split <;> exact ⟨rfl, rfl, rfl⟩

theorem Beside.toLane (s : State) (w : FrameWord) (j : Job) (l : LaneId) : Beside j.slot s (s.toLane w j l) := by
  obtain ⟨dir, conds, slots⟩ := toLane_same s w j l
  exact (Beside.updateSlot j.slot s (f := fun c => { c with inFlight := c.inFlight + 1 }) fun _ => rfl).trans
    (.of_same dir slots conds)

theorem toLane_queue (s : State) (w : FrameWord) (j : Job) (l : LaneId) :
    (s.toLane w j l).queue =
      (let queue := s.queue ++ [.lane { job := j, lane := l, seq := j.reserved, parsed := false, status := .pending }]
       if w.last then queue.map (endEntry [j.id] .framing) else queue) := by
  unfold State.toLane
  dsimp only
  cases l <;> split <;> rfl

/-- The job's LANE entry is in the queue, ENDED at once or not (R84, R87). -/
theorem toLane_entry (s : State) (w : FrameWord) (j : Job) (l : LaneId) :
    ∃ e, .lane e ∈ (s.toLane w j l).queue ∧ e.job = j ∧ e.seq = j.reserved := by
  rw [toLane_queue]
  dsimp only
  split
  · exact ⟨{ job := j, lane := l, seq := j.reserved, parsed := false, status := .ended .framing },
      by simp [endEntry], rfl, rfl⟩
  · exact ⟨{ job := j, lane := l, seq := j.reserved, parsed := false, status := .pending }, by simp, rfl, rfl⟩

theorem Beside.reserve (p : SlotNo) (s : State) (dir : Direction) (n : Nat) : Beside p s (reserve dir n p s) := by
  cases dir with
  | toAdmit => exact .of_same rfl rfl rfl
  | toProtect =>
    have charged : Beside p s (s.updateSlot p (chargeContext n)) := .updateSlot p s fun _ => rfl
    unfold Machine.reserve testLifeLow
    dsimp only
    split
    · exact charged.trans
        ((Beside.updateSlot p _ (f := fun c => { c with lowReported := true }) fun _ => rfl).trans (.raise ..))
    · exact charged

/-- A reservation takes the slot's next sequence (R8). -/
theorem reserve_slot {s : State} {p : SlotNo} {c : Context} (hc : s.slot p = some c) (n : Nat) :
    ∃ z, (reserve .toProtect n p s).slot p = some z ∧ z.nextSeq = c.nextSeq + 1 ∧ z.inFlight = c.inFlight := by
  unfold reserve testLifeLow
  dsimp only
  split
  · exact ⟨{ chargeContext n c with lowReported := true }, by simp [raiseOn_slot, hc], rfl, rfl⟩
  · exact ⟨chargeContext n c, by simp [hc], rfl, rfl⟩

/-- A raise that does not hold leaves a slot held or free as it was (R139, R140). -/
theorem heldByRecord_raise {r : Raise} (h : r.hold = false) (k j : SlotNo) (s : State) :
    heldByRecord (raiseOn r k s) j = heldByRecord s j := by
  simp only [heldByRecord, raiseOn_cond]
  rcases eq_or_ne k j with rfl | hj
  · cases raisable s k
    · simp
    · cases s.cond k <;> simp [newRecord, mergeRaise, h]
  · simp [hj]

/-- The raise of a life roll-over (R41). -/
def lifeRollRaise : Raise := { cls := .rollover, phase := some .dispatch, reason := some .life }

section
variable {s : State} {p : SlotNo} {h : JobHeader} {n : Nat}

theorem afterLifeRoll_refused {v : Verdict} (hv : slotChecks h p (raiseOn lifeRollRaise p s) = some v) :
    afterLifeRoll h n p s = (raiseOn lifeRollRaise p s, .refuse v (some p)) := by
  unfold afterLifeRoll
  rw [lifeRollRaise] at hv
  simp only [hv]
  rfl

variable {c : Context} (hc : s.slot p = some c) (hp : slotChecks h p (raiseOn lifeRollRaise p s) = none)
include hc hp

theorem afterLifeRoll_passed :
    afterLifeRoll h n p s =
      if foundSpent c n then exhausted (!c.spent) p (markSpent p (raiseOn lifeRollRaise p s))
      else (raiseOn lifeRollRaise p s, .accept p) := by
  have slot : (raiseOn lifeRollRaise p s).slot p = some c := (raiseOn_slot ..).trans hc
  have last : afterLifeRoll h n p s = lastSpentTest n p (raiseOn lifeRollRaise p s) := by
    unfold afterLifeRoll
    rw [lifeRollRaise] at hp
    simp only [hp]
    rfl
  rw [last, lastSpentTest, slot, firstSpent_eq slot]
  rfl

end

section
variable (w : FrameWord) (h : JobHeader) (d : RecipeDef) (layout : List (StepKind × Nat))

theorem Beside.exhausted (p : SlotNo) (s : State) (first : Bool) :
    Beside p s (settleDispatch w h d layout (exhausted first p (markSpent p s))) := by
  have marked : Beside p s (markSpent p s) := .updateSlot p s fun _ => rfl
  cases first with
  | false => exact marked.trans (.refused ..)
  | true => exact (marked.trans (.raise ..)).trans (.refused ..)

/-- Whatever the checks made again under the new ACTIVE decide, the rest stays (R41). -/
theorem Beside.afterLifeRoll {s : State} {p : SlotNo} {c : Context} (hc : s.slot p = some c) (n : Nat) :
    Beside p (raiseOn lifeRollRaise p s) (settleDispatch w h d layout (afterLifeRoll h n p s)) := by
  cases hv : slotChecks h p (raiseOn lifeRollRaise p s) with
  | some v =>
    rw [afterLifeRoll_refused hv]
    exact .refused ..
  | none =>
    rw [afterLifeRoll_passed hc hv]
    split
    · exact .exhausted ..
    · rw [settleDispatch_accept]
      exact (Beside.reserve p (raiseOn lifeRollRaise p s) h.dir (metered layout)).trans
        (Beside.toLane _ w (dispatchedJob (raiseOn lifeRollRaise p s) h d layout p _ _) _)

end

/-- A record in a live state that passes its check has its three check values (R22). -/
theorem checks_of_passed {c : Context} (hl : c.state.live = true) (hg : failingGroup c = none) :
    c.checks = ⟨true, true, true⟩ := by
  rcases h : c.checks with ⟨keyOk, countersOk, settingsOk⟩
  rw [failingGroup, if_pos hl, h] at hg
  cases keyOk
  · cases hg
  cases countersOk
  · cases hg
  cases settingsOk
  · cases hg
  rfl

/-- A record that passes its check before and after damage is undamaged (R22). -/
theorem damage_passed {s : State} {ds : List Damage} {k : SlotNo} {c x : Context} (hc : s.slot k = some c)
    (hl : c.state.live = true) (hg : failingGroup c = none) (hx : (damage ds s).slot k = some x)
    (hgx : failingGroup x = none) : x = c := by
  rw [damage_slot, hc] at hx
  cases hx
  have before := checks_of_passed hl hg
  have after := checks_of_passed (c := { c with checks := damaged ds k c.checks }) hl hgx
  rw [← before] at after
  exact congrArg (fun y => { c with checks := y }) after

/-! ## The life roll-over, end to end -/

/-- The state in which the checks are made again: both slots changed places, ROLLOVER raised on the new ACTIVE (R41). -/
def lifeRolled (k p : SlotNo) (q : Context) (u : State) : State :=
  raiseOn lifeRollRaise p (rolledOver p k q ((recordCheck .dispatch none k u).updateSlot k demote))

section
variable {u : State} {k p : SlotNo} {q : Context}

theorem rolledOver_slot_self (u : State) : (rolledOver k p q u).slot k = some (promote q) := slot_setSlot_self u k _

theorem rolledOver_slot_ne {j : SlotNo} (hj : j ≠ k) (u : State) : (rolledOver k p q u).slot j = u.slot j :=
  slot_setSlot_ne u hj.symm _

theorem lifeRolled_slot_self : (lifeRolled k p q u).slot p = some (promote q) :=
  (raiseOn_slot ..).trans (rolledOver_slot_self _)

theorem lifeRolled_slot_other (hp : k ≠ p) :
    (lifeRolled k p q u).slot k = ((recordCheck .dispatch none k u).updateSlot k demote).slot k :=
  (raiseOn_slot ..).trans (rolledOver_slot_ne hp _)

theorem lifeRolled_cond_other (hp : k ≠ p) :
    (lifeRolled k p q u).cond k = (recordCheck .dispatch none k u).cond k :=
  (raiseOn_cond ..).trans (if_neg fun e => hp e.1.symm)

theorem recordCheck_cond_ne (ph : CondPhase) (seq : Option SeqNo) {k j : SlotNo} (h : k ≠ j) (s : State) :
    (recordCheck ph seq k s).cond j = s.cond j := by
  rcases recordCheck_cases ph seq k s with e | ⟨c, g, -, -, e⟩ <;> rw [e]
  exact quarantine_cond_ne _ _ _ h _

theorem lifeRolled_cond_self (hp : k ≠ p) :
    ∃ r, (lifeRolled k p q u).cond p = some r ∧ r.classes.getLsbD 4 = true ∧
      (u.cond p = none → r.reason = some .life) := by
  have raised : raisable (rolledOver p k q ((recordCheck .dispatch none k u).updateSlot k demote)) p = true :=
    raisable_iff.2 ⟨_, rolledOver_slot_self _, CtxState.noConfusion⟩
  have cond : (rolledOver p k q ((recordCheck .dispatch none k u).updateSlot k demote)).cond p = u.cond p :=
    recordCheck_cond_ne _ _ hp u
  rw [lifeRolled, raiseOn_cond, if_pos ⟨rfl, raised⟩, cond]
  cases hr : u.cond p with
  | none => exact ⟨_, rfl, by simp [newRecord, lifeRollRaise, condClassBit], fun _ => rfl⟩
  | some r => exact ⟨_, rfl, by simp [mergeRaise, lifeRollRaise, condClassBit], fun h => by cases h⟩

theorem lifeRolled_held (hp : k ≠ p) : heldByRecord (lifeRolled k p q u) p = heldByRecord u p := by
  rw [lifeRolled, heldByRecord_raise rfl]
  have cond : (rolledOver p k q ((recordCheck .dispatch none k u).updateSlot k demote)).cond p = u.cond p :=
    recordCheck_cond_ne _ _ hp u
  simp only [heldByRecord, cond]

theorem lifeRolled_entry (h : u.dir.Pairwise fun a b => a.1 < b.1) :
    (lifeRolled k p q u).entry q.tag = ⟨some p, none, some k⟩ := by
  have formed : ((recordCheck .dispatch none k u).updateSlot k demote).dir.Pairwise fun a b => a.1 < b.1 :=
    (recordCheck_dir .dispatch none k u).symm ▸ h
  refine (entry_of_dir (raiseOn_dir ..) q.tag).trans ?_
  exact (entry_setEntry _ q.tag q.tag _ formed).trans (if_pos rfl)

theorem lifeRolled_nextJob : (lifeRolled k p q u).nextJob = u.nextJob := by
  simp [lifeRolled, rolledOver]

end

end Sys2Proof.Machine
end

section
/-! PROOFS. The frame that a life roll-over takes. -/

namespace Sys2Proof.Machine
open Sys2Proof

/-! ## The frame under the new ACTIVE -/

section
variable {s u : State} {k p : SlotNo} {c q : Context}

/-- A life roll-over whose STANDBY passes its record check is made, and the checks are made again under it (R38, R41). -/
theorem spentSlot_rolled (hc : s.slot k = some c) (dr : List Damage) (h : JobHeader) (n : Nat)
    (on : c.settings.flags.lifeRoll = true) (hk : k ≠ p) (he : s.entry c.tag = ⟨some k, some p, none⟩)
    (hq : Intact (damage dr s) p q) (ht : q.tag = c.tag) (hs : q.state = .standby)
    (hu : damage dr (markSpent k s) = u) :
    spentSlot dr h n k s =
      afterLifeRoll h n p (rolledOver p k q ((recordCheck .dispatch none k u).updateSlot k demote)) := by
  subst hu
  have standby : s.slotIs p .standby = true := by rw [← damage_slotIs dr, slotIs_of_slot hq.1, hs]; rfl
  have read : (damage dr (markSpent k s)).slot p = some q := (damage_markSpent_ne hk.symm dr s).trans hq.1
  have entry : (damage dr (markSpent k s)).entry q.tag = ⟨some k, some p, none⟩ := by rw [damage_entry, ht]; exact he
  rw [spentSlot_target hc dr h n on he standby, rollOver_pair_passed hk read hs (.inl entry) hq.2]
  exact if_pos (slotIs_iff.2 ⟨_, rolledOver_slot_self _, rfl⟩)

/-- The former ACTIVE, its record passed, is DRAINING (R19, R37). -/
theorem lifeRolled_other_passed (hk : k ≠ p) (hc : u.slot k = some c) (hg : failingGroup c = none)
    (hs : c.state = .active) :
    (lifeRolled k p q u).slot k = some (toDraining c) ∧ (lifeRolled k p q u).cond k = u.cond k := by
  rw [lifeRolled_slot_other hk, lifeRolled_cond_other hk, recordCheck_demote_passed hc hg, slot_setSlot_self,
    recordCheck_intact ⟨hc, hg⟩, demote, if_pos hs]
  exact ⟨rfl, rfl⟩

/-- The former ACTIVE, its record failed, is QUARANTINED with its record held (R23, R37). -/
theorem lifeRolled_other_failed {g : CheckGroup} (hk : k ≠ p) (hc : u.slot k = some c) (hg : failingGroup c = some g) :
    (lifeRolled k p q u).slot k = some (quarantinedContext c) ∧
      ∃ r, (lifeRolled k p q u).cond k = some r ∧ r.holding = true ∧ r.classes.getLsbD 0 = true ∧
        severity .cut ≤ severity r.ending ∧
        (u.cond k = none → r = { newRecord (checkRaise .dispatch none g) with ending := .cut }) := by
  rw [lifeRolled_slot_other hk, lifeRolled_cond_other hk, recordCheck_demote_failed hc hg,
    recordCheck_fail (g := g) (by rw [hc]; exact hg)]
  exact ⟨quarantine_slot_self hc, quarantine_cond_self hc⟩

end

section
variable {w : FrameWord} {h : JobHeader} {d : RecipeDef} {layout : List (StepKind × Nat)} {s : State} {p : SlotNo}
  {c : Context} (hc : s.slot p = some c)
include hc

/-- A refusal under a slot: the REFUSED entry at the tail and the count (R15, R83). -/
theorem refusing_tail (v : Verdict) :
    ((s.countingRefusal p).refusing w h v (some p)).queue.getLast? =
        some (.refused { verdict := v, dir := h.dir, tag := h.tag, marker := h.marker, slot := some p }) ∧
      ((s.countingRefusal p).refusing w h v (some p)).slot p =
        some { c with framesRefused := c.framesRefused + 1 } :=
  ⟨List.getLast?_concat, (slot_updateSlot_self s p _).trans (by rw [hc]; rfl)⟩

/-- The frame refused EXHAUSTED: the REFUSED entry at the tail, the spent flag and the count (R11, R15, R82). -/
theorem exhausted_tail (spent : Bool) :
    (settleDispatch w h d layout (exhausted (!spent) p (markSpent p s))).queue.getLast? =
        some (.refused { verdict := .exhausted, dir := h.dir, tag := h.tag, marker := h.marker, slot := some p }) ∧
      (settleDispatch w h d layout (exhausted (!spent) p (markSpent p s))).slot p =
        some { spentContext c with framesRefused := c.framesRefused + 1 } := by
  rw [settleDispatch_exhausted]
  refine refusing_tail (c := spentContext c) ?_ _
  split
  · exact markSpent_slot_self hc
  · exact (raiseOn_slot ..).trans (markSpent_slot_self hc)

/-- The frame dispatched under a slot: the slot's next sequence is taken, one more frame is in flight, and the job's LANE
entry names both (R8, R16, R84). -/
theorem accepted_protect (hd : h.dir = .toProtect) :
    ((settleDispatch w h d layout (s, .accept p)).slot p).map (fun y => (y.nextSeq, y.inFlight)) =
        some (c.nextSeq + 1, c.inFlight + 1) ∧
      ∃ e, .lane e ∈ (settleDispatch w h d layout (s, .accept p)).queue ∧ e.job.slot = p ∧ e.seq = c.nextSeq ∧
        e.job.marker = c.marker ∧ e.job.id = s.nextJob := by
  rw [settleDispatch_accept, entryMarker_protect hc hd, hd, reservedSeq_protect hc]
  set j := dispatchedJob s h d layout p c.marker c.nextSeq with hj
  constructor
  · obtain ⟨z, hz, seq, frames⟩ := reserve_slot hc (metered layout)
    obtain ⟨-, -, slots⟩ := toLane_same (reserve .toProtect (metered layout) p s) w j (chooseLane s)
    rw [slot_of_slots slots p]
    refine (congrArg _ ((slot_updateSlot_self ..).trans (congrArg _ hz))).trans ?_
    simp [seq, frames]
  · obtain ⟨e, he, job, seq⟩ := toLane_entry (reserve .toProtect (metered layout) p s) w j (chooseLane s)
    exact ⟨e, he, by rw [job, hj]; rfl, by rw [seq, hj]; rfl, by rw [job, hj]; rfl, by rw [job, hj]; rfl⟩

end

/-- Settles O14. The former ACTIVE is read and changed before the checks are made again under the new one, and these
leave it alone. -/
theorem lifeRollOverTakesTheFrame : Obligations.LifeRollOverTakesTheFrame := by
  intro s w0 w ds dr d layout k p c x q hf hd formed he hct hqt hk hi hx hq hcs hqs ha hspent on
  set h := jobHeaderOf w0 w.data
  have pair : (damage ds s).entry c.tag = ⟨some k, some p, none⟩ := (damage_entry ds s _).trans he
  set u := damage dr (markSpent k (damage ds s)) with hu
  have read : u.slot k = some (spentContext x) := damage_markSpent_self hx
  have cond : ∀ j, u.cond j = s.cond j := fun j => (damage_cond dr _ j).trans (damage_cond ds s j)
  have nextJob : u.nextJob = s.nextJob := (damage_nextJob dr _).trans (damage_nextJob ds s)
  have ordered : u.dir.Pairwise fun a b => a.1 < b.1 := by
    have dir : u.dir = s.dir := (damage_dir dr _).trans (damage_dir ds s)
    exact dir ▸ formed.1
  have undamaged : failingGroup x = none → x = c := damage_passed hi.1 (by rw [hcs]; rfl) hi.2 hx
  set R := rolledOver p k q ((recordCheck .dispatch none k u).updateSlot k demote) with hR
  have promoted : R.slot p = some (promote q) := rolledOver_slot_self _
  have slot : (lifeRolled k p q u).slot p = some (promote q) := lifeRolled_slot_self
  have held : heldByRecord (lifeRolled k p q u) p = heldByRecord s p := by
    rw [lifeRolled_held hk]; simp only [heldByRecord, cond]
  have running : (promote q).state ≠ .quarantined := CtxState.noConfusion
  have passed : Admissible s h p q → slotChecks h p (lifeRolled k p q u) = none := fun a =>
    slotChecks_passed slot running (held.trans a.free) a.direction a.recipe
  set t := settleDispatch w h d layout (afterLifeRoll h (metered layout) p R) with ht
  have beside : Beside p (lifeRolled k p q u) t := .afterLifeRoll w h d layout promoted (metered layout)
  refine ⟨t, ?_, ?_, ?_, fun hg => ?_, fun g hg => ?_, ?_, fun a fresh => ?_, fun v hv => ?_⟩
  · rw [exec_jobHeader_spent hf hd hi ha hspent, spentSlot_rolled hi.1 dr h _ on hk pair hq hqt hqs rfl]
  · rw [beside.entry, ← hqt]; exact lifeRolled_entry ordered
  · rw [beside.state]; exact slotIs_iff.2 ⟨_, slot, rfl⟩
  · cases undamaged hg
    obtain ⟨hslot, hcond⟩ := lifeRolled_other_passed (q := q) hk read hg hcs
    exact ⟨(beside.slot k hk).trans hslot, (beside.cond k hk).trans (hcond.trans (cond k))⟩
  · obtain ⟨hslot, r, hr, holds, bit, ending, fresh⟩ := lifeRolled_other_failed (q := q) hk read (g := g) hg
    refine ⟨(beside.slot k hk).trans hslot, r, (beside.cond k hk).trans hr, holds, bit, ending, fun hn => ?_⟩
    rw [fresh ((cond k).trans hn)]
    exact ⟨rfl, rfl, rfl, rfl⟩
  · obtain ⟨r, hr, bit, reason⟩ := lifeRolled_cond_self (q := q) (u := u) hk
    obtain ⟨r', hr', bits, same⟩ := beside.record r hr
    exact ⟨r', hr', bits 4 bit, fun hn => same.trans (reason ((cond p).trans hn))⟩
  · have unspent : foundSpent (promote q) (metered layout) = false := by
      rw [← Bool.not_eq_true, foundSpent_iff]; exact fresh
    have outcome : t = settleDispatch w h d layout (lifeRolled k p q u, .accept p) := by
      rw [ht, afterLifeRoll_passed promoted (passed a), unspent]; rfl
    have id : (lifeRolled k p q u).nextJob = s.nextJob := lifeRolled_nextJob.trans nextJob
    rw [outcome, ← id]
    exact accepted_protect (c := promote q) slot hd
  · have refused : ∀ v, v ≠ .exhausted → slotChecks h p (lifeRolled k p q u) = some v →
        t.queue.getLast? = some
            (.refused { verdict := v, dir := h.dir, tag := h.tag, marker := h.marker, slot := some p }) ∧
          t.slot p = some { q with
            state := .active, spent := q.spent || decide (v = .exhausted), framesRefused := q.framesRefused + 1 } := by
      intro v hne hc
      rw [ht, afterLifeRoll_refused hc, decide_eq_false hne, Bool.or_false]
      exact refusing_tail slot v
    rcases hv with ⟨hh, rfl⟩ | ⟨hh, ⟨hdir, rfl⟩ | ⟨hdir, hrec, rfl⟩⟩ | ⟨a, spent, rfl⟩
    · exact refused _ Verdict.noConfusion (slotChecks_held slot (.inr (held.trans hh)))
    · exact refused _ Verdict.noConfusion (slotChecks_direction slot running (held.trans hh) hdir)
    · exact refused _ Verdict.noConfusion (slotChecks_recipe slot running (held.trans hh) hdir hrec)
    · have found : foundSpent (promote q) (metered layout) = true := foundSpent_iff.2 spent
      have outcome : t = settleDispatch w h d layout
          (exhausted (!(promote q).spent) p (markSpent p (lifeRolled k p q u))) := by
        rw [ht, afterLifeRoll_passed promoted (passed a), found]; rfl
      rw [outcome, decide_eq_true rfl, Bool.or_true]
      exact exhausted_tail slot _

end Sys2Proof.Machine
end

section
/-! PROOFS. What SOFT_RESET drops, keeps and reports. -/

namespace Sys2Proof.Machine
open Sys2Proof

/-! ## FRAMES_LOST on slot after slot -/

/-- The raise of FRAMES_LOST (R152). -/
def framesLostRaise : Raise := { cls := .framesLost, phase := some .command }

/-- The Condition Record of a slot after FRAMES_LOST, given the one it had (R138, R139, R152). -/
def lostRecord (r : Option CondRecord) : CondRecord :=
  { r.elim (newRecord framesLostRaise) (fun r => mergeRaise r framesLostRaise) with ending := .discarded }

theorem worse_discarded (e : Ending) : worse e .discarded = .discarded := by cases e <;> rfl

theorem framesLost_frame (s : State) (k : SlotNo) :
    framesLost s k = { s with conds := (framesLost s k).conds, attention := (framesLost s k).attention } := by
  rw [framesLost, applyEnding_frame, raiseOn_frame]

theorem framesLost_cond {s : State} {k : SlotNo} (h : raisable s k = true) (j : SlotNo) :
    (framesLost s k).cond j = if k = j then some (lostRecord (s.cond j)) else s.cond j := by
  rw [framesLost, applyEnding_cond]
  rcases eq_or_ne k j with rfl | hj
  · rw [if_pos rfl, if_pos rfl, raiseOn_cond, if_pos ⟨rfl, h⟩]
    cases s.cond k <;> simp [lostRecord, framesLostRaise, worse_discarded]
  · rw [if_neg hj, if_neg hj, raiseOn_cond, if_neg fun e => hj e.1]

theorem framesLost_attention {s : State} {k : SlotNo} (h : raisable s k = true) :
    (framesLost s k).attention = s.attention ++ [k].filter fun k => (s.cond k).isNone := by
  rw [framesLost, applyEnding_attention, raiseOn_attention]
  cases hc : s.cond k <;> simp [h, hc]

theorem framesLost_raisable (s : State) (k j : SlotNo) : raisable (framesLost s k) j = raisable s j :=
  raisable_of_slot (slot_of_slots (framesLost_slots s k) j)

theorem framesLost_copied (code : Byte) (s : State) (k : SlotNo) :
    framesLost (s.copied code) k = (framesLost s k).copied code := by
  rw [framesLost, raiseOn_copied]; rfl

/-- Raising FRAMES_LOST on distinct slots in turn: each gets its record, and those that had none join the Attention
Queue in that order (R144, R152). -/
theorem foldl_framesLost {ks : List SlotNo} (distinct : ks.Nodup) {s : State} (h : ∀ k ∈ ks, raisable s k = true) :
    (∀ j, (ks.foldl framesLost s).cond j = if j ∈ ks then some (lostRecord (s.cond j)) else s.cond j) ∧
      (ks.foldl framesLost s).attention = s.attention ++ ks.filter fun k => (s.cond k).isNone := by
  induction ks generalizing s with
  | nil => exact ⟨fun _ => rfl, (List.append_nil _).symm⟩
  | cons k ks ih =>
    obtain ⟨fresh, distinct⟩ := List.nodup_cons.1 distinct
    have raised := h k (List.mem_cons_self ..)
    have later : ∀ j ∈ ks, (framesLost s k).cond j = s.cond j := fun j hj =>
      (framesLost_cond raised j).trans (if_neg fun e : k = j => fresh (e ▸ hj))
    obtain ⟨cond, attention⟩ := ih distinct (s := framesLost s k) fun j hj =>
      (framesLost_raisable s k j).trans (h j (List.mem_cons_of_mem _ hj))
    refine ⟨fun j => ?_, ?_⟩
    · rw [List.foldl_cons, cond]
      by_cases hj : j ∈ ks
      · rw [if_pos hj, later j hj, if_pos (List.mem_cons_of_mem _ hj)]
      · rw [if_neg hj, framesLost_cond raised]
        simp [hj, eq_comm]
    · have same : ks.filter (fun j => ((framesLost s k).cond j).isNone) = ks.filter fun j => (s.cond j).isNone :=
        List.filter_congr fun j hj => by rw [later j hj]
      rw [List.foldl_cons, attention, framesLost_attention raised, same, List.append_assoc, ← List.filter_append]
      rfl

theorem foldl_framesLost_frame (ks : List SlotNo) (s : State) :
    ks.foldl framesLost s =
      { s with conds := (ks.foldl framesLost s).conds, attention := (ks.foldl framesLost s).attention } := by
  induction ks generalizing s with
  | nil => rfl
  | cons k ks ih =>
    rw [List.foldl_cons, ih, framesLost_frame]

/-! ## SOFT_RESET -/

/-- A slot that SOFT_RESET raises FRAMES_LOST on (R152). -/
def lostSlot (s : State) (k : SlotNo) : Bool :=
  s.queue.any (Entry.names k) && raisable s k && !s.slotIs k .retiring

theorem softResetSlots_raisable (s : State) (k : SlotNo) :
    raisable (softResetSlots s) k = (raisable s k && !s.slotIs k .retiring) := by
  have slot : (softResetSlots s).slot k = (s.slot k).bind Context.afterSoftReset := softResetBlocks_slot s k
  simp only [raisable, State.slotIs, slot]
  cases s.slot k with
  | none => rfl
  | some c => cases h : c.state <;> simp [Context.afterSoftReset, h]

theorem lostSlots_eq (s : State) : lostSlots s.queue (softResetSlots s) = (List.finRange 256).filter (lostSlot s) := by
  refine List.filter_congr fun k _ => ?_
  rw [softResetSlots_raisable, ← Bool.and_assoc]
  rfl

theorem toList_eq_map_finRange {α : Type} {n : Nat} (v : Vector α n) :
    v.toList = (List.finRange n).map fun k => v[k] := by
  refine List.ext_getElem ?_ fun i _ _ => ?_ <;> simp

theorem retiringCount_eq (s : State) :
    retiringCount s = ((List.finRange 256).filter fun k => s.slotIs k .retiring).length := by
  rw [retiringCount, toList_eq_map_finRange s.slots, List.countP_map, List.countP_eq_length_filter]
  refine congrArg _ (List.filter_congr fun k _ => ?_)
  show (s.slot k).any _ = _
  simp only [State.slotIs]
  cases s.slot k <;> rfl

theorem softReset_eq (s : State) :
    softReset s = ((List.finRange 256).filter (lostSlot s)).foldl framesLost (softResetBlocks s) := by
  rw [← lostSlots_eq]; rfl

theorem softReset_copied (code : Byte) (s : State) : softReset (s.copied code) = (softReset s).copied code := by
  show List.foldl framesLost ((softResetFrames (softResetSlots s)).copied code) (lostSlots s.queue (softResetSlots s)) = _
  exact List.foldl_hom (fun s : State => s.copied code) fun s k => framesLost_copied code s k

/-- SOFT_RESET leaves the directory, the anchors, the locks, the result in sending and the windows (R174). -/
theorem softReset_frame (s : State) :
    softReset s = { s with
      slots := (softReset s).slots, recipes := (softReset s).recipes, intake := .awaitJob, lastLane := .laneB
      laneA := (softReset s).laneA, laneB := (softReset s).laneB, queue := [], conds := (softReset s).conds
      attention := (softReset s).attention } := by
  rw [softReset_eq, foldl_framesLost_frame]; rfl

theorem bytesOf_one (n : Nat) : bytesOf 1 n = [BitVec.ofNat 8 n] := by simp [bytesOf]

theorem softResetReport_eq (s : State) :
    softResetReport s = [BitVec.ofNat 8 s.queue.length,
      BitVec.ofNat 8 ((List.finRange 256).filter fun k => s.slotIs k .retiring).length,
      BitVec.ofNat 8 ((List.finRange 256).filter (lostSlot s)).length] := by
  rw [softResetReport, bytesOf_one, bytesOf_one, bytesOf_one, retiringCount_eq, lostSlots_eq]
  rfl

theorem exec_softReset {s : State} (h : CommandReady s) :
    exec .softReset s = .next ((softReset s).answered 0x09 .done (softResetReport s)) := by
  have block : (softReset s).commandBlock = s.commandBlock ∧ (softReset s).lockLine = s.lockLine := by
    rw [softReset_eq, foldl_framesLost_frame]; exact ⟨rfl, rfl⟩
  have report : softResetReport (s.copied 0x09) = softResetReport s := rfl
  show Host.Outcome.next _ = _
  rw [writeStart_ready h, runSoftReset, softReset_copied, report, post_answered block.1 block.2]

theorem lostSlot_iff {s : State} {k : SlotNo} (h : lostSlot s k = true) :
    raisable s k = true ∧ s.slotIs k .retiring = false := by
  simp only [lostSlot, Bool.and_eq_true, Bool.not_eq_true'] at h
  exact ⟨h.1.2, h.2⟩

theorem softReset_slot (s : State) (k : SlotNo) : (softReset s).slot k = (s.slot k).bind Context.afterSoftReset := by
  have slots : (softReset s).slots = (softResetBlocks s).slots := by rw [softReset_eq, foldl_framesLost_frame]
  exact (slot_of_slots slots k).trans (softResetBlocks_slot s k)

theorem softReset_recipe (s : State) (n : RecipeNo) : (softReset s).recipe n = { s.recipe n with inFlight := 0 } := by
  have recipes : (softReset s).recipes = (softResetBlocks s).recipes := by rw [softReset_eq, foldl_framesLost_frame]
  exact (recipe_of_recipes recipes n).trans (softResetBlocks_recipe s n)

theorem softReset_lane (s : State) (l : LaneId) : (softReset s).lane l = { Lane.initial with out := keptOut s l } := by
  rw [softReset_eq, foldl_framesLost_frame]
  cases l <;> rfl

/-- The Attention Queue after SOFT_RESET, and the records (R144, R151, R152). -/
theorem softReset_records (s : State) :
    (∀ k, (softReset s).cond k =
      if lostSlot s k then some (lostRecord (s.cond k)) else if s.slotIs k .retiring then none else s.cond k) ∧
    (softReset s).attention = (s.attention.filter fun k => !s.slotIs k .retiring)
      ++ (List.finRange 256).filter fun k => lostSlot s k && (s.cond k).isNone := by
  have kept : ∀ k, lostSlot s k = true → (softResetBlocks s).cond k = s.cond k := fun k hk => by
    rw [softResetBlocks_cond, (lostSlot_iff hk).2]; rfl
  obtain ⟨cond, attention⟩ := foldl_framesLost ((List.nodup_finRange 256).filter (lostSlot s)) (s := softResetBlocks s)
    fun k hk => by
      obtain ⟨raised, stays⟩ := lostSlot_iff (List.mem_filter.1 hk).2
      exact (softResetSlots_raisable s k).trans (by rw [raised, stays]; rfl)
  rw [← softReset_eq] at cond attention
  refine ⟨fun k => ?_, attention.trans (congrArg _ ?_)⟩
  · rw [cond]
    cases hl : lostSlot s k with
    | false => rw [if_neg (by simp [hl]), softResetBlocks_cond]; rfl
    | true => rw [if_pos (by simp [hl]), kept k hl]; rfl
  · rw [List.filter_filter]
    refine List.filter_congr fun k _ => ?_
    cases hl : lostSlot s k with
    | false => rw [Bool.and_false, Bool.false_and]
    | true => rw [kept k hl, Bool.and_comm]

/-- Settles O45. -/
theorem softResetDropsFrames : Obligations.SoftResetDropsFrames := by
  intro s h
  obtain ⟨cond, attention⟩ := softReset_records s
  refine ⟨_, exec_softReset h, ?_, softReset_slot s, softReset_recipe s, fun l => ?_, attention,
    fun k => ⟨fun hr => ?_, fun hr hl => ?_, fun hl => ?_⟩⟩
  · rw [softResetReport_eq]
    exact congrArg (fun u : State => u.answered 0x09 .done _) (softReset_frame s)
  · have lane : ((softReset s).answered 0x09 .done (softResetReport s)).lane l =
        { Lane.initial with out := keptOut s l } := softReset_lane s l
    rw [lane]
    refine ⟨rfl, rfl, rfl, fun ⟨x, hx, hl⟩ => ?_, fun hn => ?_⟩
    · simp only [keptOut, hx, hl, if_true]
    · cases hx : s.sending with
      | none => simp only [keptOut, hx]
      | some x =>
        have other : x.lane ≠ some l := fun hl => hn ⟨x, hx, hl⟩
        simp only [keptOut, hx, if_neg other]
  · have stays : lostSlot s k = false := by simp [lostSlot, hr]
    exact (cond k).trans (by rw [stays, hr]; rfl)
  · have stays : lostSlot s k = false := hl
    exact (cond k).trans (by rw [stays, hr]; rfl)
  · refine (cond k).trans ((if_pos hl).trans (congrArg some ?_))
    cases s.cond k with
    | none => rfl
    | some r =>
      have overlap : min 15 (r.overlap + 1) = if r.overlap < 15 then r.overlap + 1 else 15 := by split <;> omega
      simp [lostRecord, mergeRaise, framesLostRaise, overlap]

end Sys2Proof.Machine
end

section
/-! PROOFS. QUERY and QUERY_TAG. -/

namespace Sys2Proof.Machine
open Sys2Proof

/-! ## QUERY -/

/-- A QUERY that is taken reads the named slot's record with the record check and reports what is then there (R161,
R173). -/
theorem exec_query_ready {s : State} (h : CommandReady s) (ds : List Damage) :
    exec (.query ds) s = .next (querySlot (copyAtStart 0x07 s) s.namedSlot
      (recordCheck .command none s.namedSlot ((damage ds s).copied 0x07))) := by
  simp only [exec, execQuery, writeStart_ready h, damage_copied]
  rfl

theorem querySlot_free {s : State} {k : SlotNo} (hn : s.slot k = none) (copy : CommandCopy) :
    querySlot copy k s = post copy .notInUse [0x00] s := by
  rw [querySlot, hn]
  rfl

theorem querySlot_used {s : State} {k : SlotNo} {c : Context} (hc : s.slot k = some c) (copy : CommandCopy) :
    querySlot copy k s = post copy .done (queryReport k c s) s := by
  rw [querySlot, hc]

/-- What QUERY reports reads nothing that the taking of a Start changes. -/
theorem queryReport_copied (k : SlotNo) (c : Context) (s : State) (code : Byte) :
    queryReport k c (s.copied code) = queryReport k c s := rfl

/-- QUERY of a FREE slot: there is no record to check (R22, R173). -/
theorem exec_query_free {s : State} (h : CommandReady s) (ds : List Damage) (hn : s.slot s.namedSlot = none) :
    exec (.query ds) s = .next ((damage ds s).answered 0x07 .notInUse [0x00]) := by
  have free : ((damage ds s).copied 0x07).slot s.namedSlot = none := (damage_free ds s s.namedSlot).2 hn
  have unchecked : recordCheck .command none s.namedSlot ((damage ds s).copied 0x07) = (damage ds s).copied 0x07 :=
    recordCheck_pass (by rw [free]; rfl)
  rw [exec_query_ready h, unchecked, querySlot_free free, post_unchanged]

/-- QUERY of a slot whose record passes changes nothing (R161, R173). -/
theorem exec_query_passed {s : State} (h : CommandReady s) {ds : List Damage} {c : Context}
    (hc : (damage ds s).slot s.namedSlot = some c) (hg : failingGroup c = none) :
    exec (.query ds) s = .next
      ((damage ds s).answered 0x07 .done (queryReport s.namedSlot c (damage ds s))) := by
  rw [exec_query_ready h, recordCheck_copied_pass hc hg, querySlot_used (s := (damage ds s).copied 0x07) hc,
    queryReport_copied, post_unchanged]

/-- QUERY of a slot whose record fails quarantines it, and reports the record as the quarantine left it (R23, R161). -/
theorem exec_query_failed {s : State} (h : CommandReady s) {ds : List Damage} {c : Context} {g : CheckGroup}
    (hc : (damage ds s).slot s.namedSlot = some c) (hg : failingGroup c = some g) :
    exec (.query ds) s = .next ((quarantine .command none g s.namedSlot (damage ds s)).answered 0x07 .done
      (queryReport s.namedSlot (quarantinedContext c) (quarantine .command none g s.namedSlot (damage ds s)))) := by
  have quarantined : ((quarantine .command none g s.namedSlot (damage ds s)).copied 0x07).slot s.namedSlot =
      some (quarantinedContext c) := quarantine_slot_self hc
  rw [exec_query_ready h, recordCheck_copied_fail hc hg, querySlot_used quarantined, queryReport_copied,
    post_quarantined]

/-! ## QUERY_TAG -/

theorem runQueryTag_badField {c : CommandCopy} (ht : tagAt c.block 0x00 = none) (s : State) :
    runQueryTag c s = post c .badField [] s := by
  rw [runQueryTag, ht]

/-- The result code alone depends on whether the tag has an entry; the report is made the same way (R48;
assumption 12). -/
theorem runQueryTag_tag {c : CommandCopy} {t : Tag} (ht : tagAt c.block 0x00 = some t) (s : State) :
    runQueryTag c s = post c (if s.entry t = DirEntry.empty then .notInUse else .done) (tagReport t s) s := by
  simp only [runQueryTag, ht]
  split <;> rfl

/-- A completion after a Start, with nothing changed between (R154, R156). -/
theorem post_copied (code : Byte) (r : ResultCode) (f : List Byte) (s : State) :
    post (copyAtStart code s) r f (s.copied code) = s.answered code r f := post_answered rfl rfl

theorem exec_queryTag_ready {s : State} (h : CommandReady s) :
    exec .queryTag s = .next (runQueryTag (copyAtStart 0x08 s) (s.copied 0x08)) :=
  congrArg _ (writeStart_ready h)

theorem exec_queryTag_badField {s : State} (h : CommandReady s) (ht : tagAt s.commandBlock 0x00 = none) :
    exec .queryTag s = .next (s.answered 0x08 .badField []) := by
  rw [exec_queryTag_ready h, runQueryTag_badField (c := copyAtStart 0x08 s) ht, post_copied]

theorem exec_queryTag_tag {s : State} (h : CommandReady s) {t : Tag} (ht : tagAt s.commandBlock 0x00 = some t) :
    exec .queryTag s = .next
      (s.answered 0x08 (if s.entry t = DirEntry.empty then .notInUse else .done) (tagReport t s)) := by
  rw [exec_queryTag_ready h, runQueryTag_tag (c := copyAtStart 0x08 s) ht, post_copied]
  rfl

/-- Settles O44, by what the named slot holds at the record check and by whether the block names a tag. -/
theorem queriesReport : Obligations.QueriesReport :=
  ⟨fun _ ds h => ⟨exec_query_free h ds, fun _ hc => ⟨exec_query_passed h hc, fun _ hg => exec_query_failed h hc hg⟩⟩,
    fun _ h => ⟨exec_queryTag_badField h, fun _ ht => exec_queryTag_tag h ht⟩⟩

end Sys2Proof.Machine
end

section
/-! PROOFS. The recipe commands. -/

namespace Sys2Proof.Machine
open Sys2Proof

/-! ## The Recipe Table after a Start -/

theorem recipe_copied (s : State) (code : Byte) (n : RecipeNo) : (s.copied code).recipe n = s.recipe n := rfl

/-- The validation reads the Recipe Table and nothing that the taking of a Start changes (R59). -/
theorem checkRecipe_copied (b : Block) (s : State) (code : Byte) :
    checkRecipe b (s.copied code) = checkRecipe b s := rfl

/-- A recipe takes a definition, or loses it, and the command is DONE (R67, R68). -/
theorem post_setRecipe (s : State) (n : RecipeNo) (r : Recipe) (code : Byte) (f : List Byte) :
    post (copyAtStart code s) .done f ((s.copied code).setRecipe n r) = (s.setRecipe n r).answered code .done f :=
  post_answered (u := s.setRecipe n r) rfl rfl

/-! ## WRITE_RECIPE -/

/-- A definition that passes the validation is for a recipe with no frame in flight, the last of the five checks (R59). -/
theorem checkRecipe_idle {b : Block} {s : State} {n : RecipeNo} {d : RecipeDef} (h : checkRecipe b s = .ok (n, d)) :
    (s.recipe n).inFlight = 0 := by
  unfold checkRecipe at h
  split at h
  · split at h
    · split at h
      · split at h
        · split at h
          · cases h
            assumption
          · cases h
        · cases h
      · cases h
    · cases h
  · cases h

theorem exec_writeRecipe_ok {s : State} (h : Unlocked s) {n : RecipeNo} {d : RecipeDef}
    (hd : checkRecipe s.commandBlock s = .ok (n, d)) :
    exec .writeRecipe s = .next
      ((s.setRecipe n { defn := some d, inFlight := 0 }).answered 0x10 .done [BitVec.ofNat 8 n.val]) := by
  simp only [exec, execWriteRecipe, writeStart_ready h.toCommandReady, runWriteRecipe,
    guarded_released (c := copyAtStart 0x10 s) h.released, copyAtStart_block, checkRecipe_copied, hd,
    recipe_copied, checkRecipe_idle hd]
  rw [post_setRecipe]

theorem exec_writeRecipe_error {s : State} (h : Unlocked s) {r : ResultCode}
    (hr : checkRecipe s.commandBlock s = .error r) : exec .writeRecipe s = .next (s.answered 0x10 r []) := by
  simp only [exec, execWriteRecipe, writeStart_ready h.toCommandReady, runWriteRecipe,
    guarded_released (c := copyAtStart 0x10 s) h.released, copyAtStart_block, checkRecipe_copied, hr]
  rw [post_copied]

/-! ## CLEAR_RECIPE -/

theorem exec_clearRecipe_idle {s : State} (h : Unlocked s) {n : RecipeNo} (hn : indexAt s.commandBlock 0x00 16 = some n)
    (h0 : (s.recipe n).inFlight = 0) :
    exec .clearRecipe s = .next ((s.setRecipe n { defn := none, inFlight := 0 }).answered 0x11 .done []) := by
  simp only [exec, execClearRecipe, writeStart_ready h.toCommandReady, runClearRecipe,
    guarded_released (c := copyAtStart 0x11 s) h.released, copyAtStart_block, hn, recipe_copied, h0, if_true]
  rw [post_setRecipe]

theorem exec_clearRecipe_busy {s : State} (h : Unlocked s) {n : RecipeNo} (hn : indexAt s.commandBlock 0x00 16 = some n)
    (h0 : (s.recipe n).inFlight ≠ 0) : exec .clearRecipe s = .next (s.answered 0x11 .recipeBusy []) := by
  simp only [exec, execClearRecipe, writeStart_ready h.toCommandReady, runClearRecipe,
    guarded_released (c := copyAtStart 0x11 s) h.released, copyAtStart_block, hn, recipe_copied, h0, if_false]
  rw [post_copied]

theorem exec_clearRecipe_badField {s : State} (h : Unlocked s) (hn : indexAt s.commandBlock 0x00 16 = none) :
    exec .clearRecipe s = .next (s.answered 0x11 .badField []) := by
  simp only [exec, execClearRecipe, writeStart_ready h.toCommandReady, runClearRecipe,
    guarded_released (c := copyAtStart 0x11 s) h.released, copyAtStart_block, hn]
  rw [post_copied]

/-! ## READ_RECIPE -/

theorem exec_readRecipe_index {s : State} (h : CommandReady s) {n : RecipeNo}
    (hn : indexAt s.commandBlock 0x00 16 = some n) :
    exec .readRecipe s = .next (s.answered 0x12 .done (recipeReport (s.recipe n))) := by
  simp only [exec, execReadRecipe, writeStart_ready h, runReadRecipe, copyAtStart_block, hn, recipe_copied]
  rw [post_copied]

theorem exec_readRecipe_badField {s : State} (h : CommandReady s) (hn : indexAt s.commandBlock 0x00 16 = none) :
    exec .readRecipe s = .next (s.answered 0x12 .badField []) := by
  simp only [exec, execReadRecipe, writeStart_ready h, runReadRecipe, copyAtStart_block, hn]
  rw [post_copied]

/-- Settles O46. -/
theorem recipeCommandsChangeOneRecipe : Obligations.RecipeCommandsChangeOneRecipe := by
  refine ⟨fun s h => ⟨fun n d hd => ?_, fun r => exec_writeRecipe_error h,
    fun n hn => ⟨exec_clearRecipe_idle h hn, exec_clearRecipe_busy h hn⟩, exec_clearRecipe_badField h⟩,
    fun s h => ⟨fun n => exec_readRecipe_index h, exec_readRecipe_badField h⟩⟩
  obtain ⟨sound, -⟩ := checkRecipe_sound hd
  exact ⟨sound, checkRecipe_idle hd, exec_writeRecipe_ok h hd⟩

end Sys2Proof.Machine
end

section
/-! PROOFS. The phases of WORK as equations, the stream header's bytes, and the lengths of a tag. -/

namespace Sys2Proof.Machine
open Sys2Proof

/-! ## A number and its bytes -/

@[simp] theorem bytesOf_length (n v : Nat) : (bytesOf n v).length = n := by simp [bytesOf]

theorem bytesOf_succ (n v : Nat) : bytesOf (n + 1) v = bytesOf n (v / 256) ++ [BitVec.ofNat 8 v] := by
  have shifted : ∀ i < n, v >>> (8 * (n - i)) = (v / 256) >>> (8 * (n - 1 - i)) := by
    intro i hi
    rw [show 8 * (n - i) = 8 + 8 * (n - 1 - i) by omega, Nat.shiftRight_add, Nat.shiftRight_eq_div_pow v 8]
  simp only [bytesOf, List.range_succ, List.map_append, List.map_cons, List.map_nil, Nat.add_sub_cancel, Nat.sub_self,
    Nat.mul_zero, Nat.shiftRight_zero]
  exact congrArg (· ++ _) (List.map_congr_left fun i hi => by rw [shifted i (List.mem_range.1 hi)])

theorem natOf_concat (bs : List Byte) (b : Byte) : natOf (bs ++ [b]) = natOf bs * 256 + b.toNat := by
  simp [natOf, List.foldl_append]

/-- The bytes of a number spell it, up to what they can hold (R195). -/
theorem natOf_bytesOf (n v : Nat) : natOf (bytesOf n v) = v % 256 ^ n := by
  induction n generalizing v with
  | zero => simp [bytesOf, natOf, Nat.mod_one]
  | succ n ih =>
    rw [bytesOf_succ, natOf_concat, ih, BitVec.toNat_ofNat, Nat.pow_succ' (m := 256), Nat.mod_mul]
    omega

/-! ## The stream header -/

theorem streamHeader_length (tag : Tag) (marker : Bool) (t : TagLen) (seq : SeqNo) :
    (streamHeader tag marker t seq).length = 10 := by simp [streamHeader]

/-- The last six bytes of a header carry its sequence (Table 10-6). -/
theorem parsedSeq_eq {hdr : List Byte} {seq : SeqNo} (h : hdr.drop 4 = bytesOf 6 seq.toNat) : parsedSeq hdr = seq := by
  have six : (bytesOf 6 seq.toNat).take 6 = bytesOf 6 seq.toNat := List.take_of_length_le (bytesOf_length 6 _).le
  rw [parsedSeq, h, six, natOf_bytesOf]
  exact BitVec.eq_of_toNat_eq (by rw [BitVec.toNat_ofNat]; have := seq.isLt; omega)

theorem streamHeader_take (tag : Tag) (marker : Bool) (t : TagLen) (seq : SeqNo) :
    (streamHeader tag marker t seq).take 4 = bytesOf 2 tag.toNat ++ [controlByte marker t, 0] :=
  List.take_left' (by simp)

theorem streamHeader_drop (tag : Tag) (marker : Bool) (t : TagLen) (seq : SeqNo) :
    (streamHeader tag marker t seq).drop 4 = bytesOf 6 seq.toNat := List.drop_left' (by simp)

/-- What the tests of a received header ask of a header with a given sequence (R65). -/
theorem headerPasses_iff {j : Job} {hdr : List Byte} {seq : SeqNo} (h : hdr.drop 4 = bytesOf 6 seq.toNat) :
    headerPasses j hdr = true ↔
      hdr.take 4 = bytesOf 2 j.tag.toNat ++ [controlByte j.marker j.tagLen, 0] ∧ seq ≠ 0 := by
  rw [headerPasses, parsedSeq_eq h, Bool.and_eq_true, decide_eq_true_eq, bne_iff_ne]

/-! ## The phases -/

@[simp] theorem setWork_lane (l : LaneId) (f : WorkFrame) (s : State) :
    (setWork l f s).lane l = { s.lane l with work := some f } := lane_setLane_self _ _ _

@[simp] theorem setWork_power (l : LaneId) (f : WorkFrame) (s : State) : (setWork l f s).power = s.power :=
  setLane_power _ _ _

@[simp] theorem setWork_queue (l : LaneId) (f : WorkFrame) (s : State) : (setWork l f s).queue = s.queue :=
  setLane_queue _ _ _

/-- A frame as BODY leaves it (R101). -/
def afterBody (k : ContextKey) (n : Nonce) (f : WorkFrame) : WorkFrame :=
  { f with
    phase := .tag
    output := (bodyRun k n f).output
    authClear := (bodyRun k n f).authClear
    cipherBytes := (bodyRun k n f).cipherBytes }

@[simp] theorem buildHeader_job (k : FetchedKey) (f : WorkFrame) : (buildHeader k f).job = f.job := rfl
@[simp] theorem parseHeader_job (k : FetchedKey) (f : WorkFrame) : (parseHeader k f).job = f.job := rfl
@[simp] theorem afterBody_job (k : ContextKey) (n : Nonce) (f : WorkFrame) : (afterBody k n f).job = f.job := rfl

section
variable {l : LaneId} {s : State} {f : WorkFrame} {k : FetchedKey} (running : s.power = .running)
  (work : (s.lane l).work = some f) (fetched : f.fetched = some k)
include running work fetched

/-- HEADER of a protect (R64, R100). -/
theorem exec_header_protect (phase : f.phase = .header) (dir : f.job.dir = .toProtect) :
    exec (.header l) s = .next (setWork l (buildHeader k f) s) := by
  simp only [exec, execHeader, whenRunning_running running, headerPhase, work, phase, fetched, dir]

/-- HEADER of a frame to be admitted: the sequence is written in either outcome of the tests (R65, R100). -/
theorem exec_header_admit (phase : f.phase = .header) (dir : f.job.dir = .toAdmit) :
    exec (.header l) s = .next
      { setWork l (parseHeader k f) s with
        queue := s.queue.map (writeSeq f.job.id (parsedSeq (receivedHeader f))) } := by
  simp only [exec, execHeader, whenRunning_running running, headerPhase, work, phase, fetched, dir]

variable {n : Nonce} (nonce : f.nonce = some n)
include nonce

/-- BODY (R101). -/
theorem exec_body (phase : f.phase = .body) :
    exec (.body l) s = .next (setWork l (afterBody k.key n f) s) := by
  simp only [exec, execBody, whenRunning_running running, bodyPhase, work, phase, fetched, nonce, afterBody]

/-- TAG (R102). -/
theorem exec_tag (phase : f.phase = .tag) : exec (.tag l) s = .next (setWork l (tagFrame k.key n f) s) := by
  simp only [exec, execTag, whenRunning_running running, tagPhase, work, phase, fetched, nonce]

/-- BODY and then TAG of a frame (R101, R102). -/
theorem exec_body_tag (phase : f.phase = .body) :
    ∃ t u, exec (.body l) s = .next t ∧ exec (.tag l) t = .next u ∧
      (u.lane l).work = some (tagFrame k.key n (afterBody k.key n f)) ∧ u.queue = s.queue := by
  refine ⟨_, _, exec_body running work fetched nonce phase,
    exec_tag (f := afterBody k.key n f) ?_ ?_ fetched nonce rfl, ?_, ?_⟩
  · rw [setWork_power, running]
  · rw [setWork_lane]
  · rw [setWork_lane]
  · rw [setWork_queue, setWork_queue]

end

theorem tagFrame_protect {f : WorkFrame} (dir : f.job.dir = .toProtect) (k : ContextKey) (n : Nonce) :
    tagFrame k n f = { f with output := f.output ++ frameTag k n f, phase := .done .finished } := by
  rw [tagFrame, dir]

theorem tagFrame_admit {f : WorkFrame} (dir : f.job.dir = .toAdmit) (k : ContextKey) (n : Nonce) :
    tagFrame k n f = { f with phase := .done (if receivedTag f = frameTag k n f then .verified else .verifyFail) } := by
  rw [tagFrame, dir]

/-- The tag of a frame has the recipe's tag length (R56). -/
theorem frameTag_length (k : ContextKey) (n : Nonce) (f : WorkFrame) :
    (frameTag k n f).length = tagLenNat f.job.tagLen := by
  rw [frameTag, List.length_take, bytesOf_length]
  cases f.job.tagLen <;> rfl

/-! ## HEADER and TAG, settled -/

/-- Settles O19. -/
theorem headerBuiltOrParsed : Obligations.HeaderBuiltOrParsed := by
  refine ⟨fun l s f k running work phase fetched dir => exec_header_protect running work fetched phase dir, ?_⟩
  rintro l s f k x seq running work phase fetched dir hx - sequence
  have received : receivedHeader f = x := hx.symm
  rw [exec_header_admit running work fetched phase dir, parseHeader, received, parsedSeq_eq sequence]
  simp only [headerPasses_iff sequence]
  rfl

/-- Settles O21. -/
theorem tagAppendedOrCompared : Obligations.TagAppendedOrCompared := by
  intro l s f k n running work phase fetched nonce
  refine ⟨fun dir => ?_, fun dir => ?_⟩
  · rw [exec_tag running work fetched nonce phase, tagFrame_protect dir]
    rfl
  · rw [exec_tag running work fetched nonce phase, tagFrame_admit dir]
    rfl

end Sys2Proof.Machine
end

section
/-! PROOFS. What BODY reads and writes, step by step, and the output length fixed at dispatch. -/

namespace Sys2Proof.Machine
open Sys2Proof

/-! ## One step of BODY -/

@[simp] theorem combine_length (k : ContextKey) (n : Nonce) (start : Nat) (bs : List Byte) :
    (combine k n start bs).length = bs.length := List.length_mapIdx

/-- The bytes a step reads and those that stay for the steps after it. -/
theorem exists_read {bs : List Byte} {m : Nat} (enough : m ≤ bs.length) :
    ∃ here later, bs = here ++ later ∧ m = here.length :=
  ⟨bs.take m, bs.drop m, (List.take_append_drop m bs).symm, (List.length_take_of_le enough).symm⟩

section
variable {d : Direction} {k : ContextKey} {n : Nonce} {x here rest : List Byte} {r : BodyRun}
  (input : r.input = here ++ rest)
include input

theorem bodyStep_clear :
    bodyStep d k n x r (.clear, here.length) =
      { r with input := rest, output := r.output ++ here, authClear := r.authClear ++ here } := by
  simp [bodyStep, input]

theorem bodyStep_skip :
    bodyStep d k n x r (.skip, here.length) = { r with input := rest, output := r.output ++ here } := by
  simp [bodyStep, input]

theorem bodyStep_strip : bodyStep d k n x r (.strip, here.length) = { r with input := rest } := by
  simp [bodyStep, input]

/-- A CIPHER step gathers the cipher bytes, what a protect writes and what the other direction reads (R54, R57). -/
theorem bodyStep_cipher :
    bodyStep d k n x r (.cipher, here.length) =
      { r with
        input := rest
        used := r.used + here.length
        output := r.output ++ combine k n r.used here
        cipherBytes := r.cipherBytes ++ if d = .toProtect then combine k n r.used here else here } := by
  cases d <;> simp [bodyStep, input]

/-- HEADER toward the admitted side reads ten bytes, whatever length its step carries (R53). -/
theorem bodyStep_header_admit (ten : here.length = 10) (m : Nat) :
    bodyStep .toAdmit k n x r (.header, m) = { r with input := rest, authClear := r.authClear ++ here } := by
  simp only [bodyStep, input, ← ten, List.drop_left, List.take_left]

end

theorem bodyStep_header_protect (k : ContextKey) (n : Nonce) (x : List Byte) (r : BodyRun) (m : Nat) :
    bodyStep .toProtect k n x r (.header, m) = { r with output := r.output ++ x, authClear := r.authClear ++ x } := rfl

theorem bodyStep_tag (d : Direction) (k : ContextKey) (n : Nonce) (x : List Byte) (r : BodyRun) (m : Nat) :
    bodyStep d k n x r (.tag, m) = r := by cases d <;> rfl

/-- Settles O20. -/
theorem bodyTakesStepsByKind : Obligations.BodyTakesStepsByKind := by
  refine ⟨fun l s f k n running work phase fetched nonce => exec_body running work fetched nonce phase, ?_⟩
  intro d k n x here rest r input
  exact ⟨bodyStep_clear input, bodyStep_skip input, bodyStep_strip input, bodyStep_tag d k n x r _,
    bodyStep_cipher input, bodyStep_header_protect k n x r 10, fun ten => bodyStep_header_admit input ten 10⟩

/-! ## Bytes read and bytes written -/

/-- What HEADER reads of the input (R53). -/
def headerReads : Direction → Nat
  | .toProtect => 0
  | .toAdmit => 10

/-- What HEADER writes to the output (R53). -/
def headerWrites : Direction → Nat
  | .toProtect => 10
  | .toAdmit => 0

/-- What a step with its resolved length reads of the input; the tag is read by TAG, not by BODY (R52, R53). -/
def stepReads (d : Direction) (p : StepKind × Nat) : Nat :=
  match p.1 with
  | .header => headerReads d
  | .tag => 0
  | .clear | .cipher | .skip | .strip => p.2

/-- What a step writes to the output (R52, R53). -/
def stepWrites (d : Direction) (p : StepKind × Nat) : Nat :=
  match p.1 with
  | .header => headerWrites d
  | .strip | .tag => 0
  | .clear | .cipher | .skip => p.2

def layoutReads (d : Direction) (layout : List (StepKind × Nat)) : Nat := (layout.map (stepReads d)).sum

def layoutWrites (d : Direction) (layout : List (StepKind × Nat)) : Nat := (layout.map (stepWrites d)).sum

@[simp] theorem layoutReads_nil (d : Direction) : layoutReads d [] = 0 := rfl
@[simp] theorem layoutWrites_nil (d : Direction) : layoutWrites d [] = 0 := rfl

theorem layoutReads_cons (d : Direction) (p : StepKind × Nat) (layout : List (StepKind × Nat)) :
    layoutReads d (p :: layout) = stepReads d p + layoutReads d layout := List.sum_cons

theorem layoutWrites_cons (d : Direction) (p : StepKind × Nat) (layout : List (StepKind × Nat)) :
    layoutWrites d (p :: layout) = stepWrites d p + layoutWrites d layout := List.sum_cons

section
variable {d : Direction} {k : ContextKey} {n : Nonce} {x : List Byte}

theorem bodyStep_input (r : BodyRun) (p : StepKind × Nat) :
    (bodyStep d k n x r p).input = r.input.drop (stepReads d p) := by
  obtain ⟨kind, m⟩ := p
  cases kind <;> cases d <;> rfl

theorem bodyStep_output_length (ten : x.length = 10) {r : BodyRun} {p : StepKind × Nat}
    (enough : stepReads d p ≤ r.input.length) :
    (bodyStep d k n x r p).output.length = r.output.length + stepWrites d p := by
  obtain ⟨kind, m⟩ := p
  cases kind with
  | header =>
    cases d with
    | toProtect => rw [bodyStep_header_protect, List.length_append, ten]; rfl
    | toAdmit => rfl
  | strip => cases d <;> rfl
  | tag => rw [bodyStep_tag]; rfl
  | clear =>
    obtain ⟨here, later, input, rfl⟩ := exists_read enough
    rw [bodyStep_clear input, List.length_append]; rfl
  | skip =>
    obtain ⟨here, later, input, rfl⟩ := exists_read enough
    rw [bodyStep_skip input, List.length_append]; rfl
  | cipher =>
    obtain ⟨here, later, input, rfl⟩ := exists_read enough
    rw [bodyStep_cipher input, List.length_append, combine_length]; rfl

theorem foldl_bodyStep_input (layout : List (StepKind × Nat)) (r : BodyRun) :
    (layout.foldl (bodyStep d k n x) r).input = r.input.drop (layoutReads d layout) := by
  induction layout generalizing r with
  | nil => rfl
  | cons p layout ih => rw [List.foldl_cons, ih, bodyStep_input, List.drop_drop, layoutReads_cons]

/-- An input long enough for a layout is so for its first step, and what that step leaves for the others. -/
theorem enough_cons {r : BodyRun} {p : StepKind × Nat} {layout : List (StepKind × Nat)}
    (enough : layoutReads d (p :: layout) ≤ r.input.length) :
    stepReads d p ≤ r.input.length ∧ layoutReads d layout ≤ (bodyStep d k n x r p).input.length := by
  rw [layoutReads_cons] at enough
  rw [bodyStep_input, List.length_drop]
  omega

theorem foldl_bodyStep_output_length (ten : x.length = 10) {layout : List (StepKind × Nat)} {r : BodyRun}
    (enough : layoutReads d layout ≤ r.input.length) :
    (layout.foldl (bodyStep d k n x) r).output.length = r.output.length + layoutWrites d layout := by
  induction layout generalizing r with
  | nil => rfl
  | cons p layout ih =>
    obtain ⟨here, later⟩ := enough_cons (k := k) (n := n) (x := x) enough
    rw [List.foldl_cons, ih later, bodyStep_output_length ten here, layoutWrites_cons, Nat.add_assoc]

end

/-! ## A sound recipe, its layout and its sums -/

/-- How many steps of a layout are HEADER. -/
def headerCount (layout : List (StepKind × Nat)) : Nat := layout.countP fun p => p.1 == .header

theorem kindSum_cons (k : StepKind) (p : StepKind × Nat) (layout : List (StepKind × Nat)) :
    kindSum k (p :: layout) = (if p.1 = k then p.2 else 0) + kindSum k layout := by
  by_cases h : p.1 = k <;> simp [kindSum, h]

/-- BODY writes what it reads but for the header, which one direction alone reads and the other alone writes, and for
what STRIP drops (R52, R53, R63). -/
theorem layoutWrites_add_strip (d : Direction) (layout : List (StepKind × Nat)) :
    layoutWrites d layout + kindSum .strip layout + headerReads d * headerCount layout =
      layoutReads d layout + headerWrites d * headerCount layout := by
  induction layout with
  | nil => rfl
  | cons p layout ih =>
    obtain ⟨kind, m⟩ := p
    have count : headerCount ((kind, m) :: layout) = headerCount layout + if kind = .header then 1 else 0 := by
      simp [headerCount, List.countP_cons]
    rw [layoutWrites_cons, layoutReads_cons, kindSum_cons, count]
    cases kind <;> simp [stepReads, stepWrites, Nat.mul_add] <;> omega

/-- What the validation says of a definition's steps: check (4) of R59. -/
structure RecipeDef.WellShaped (d : RecipeDef) : Prop where
  oneHeader : d.steps.countP (fun st => st.kind == .header) = 1
  oneTag : d.steps.countP (fun st => st.kind == .tag) = 1
  tagLast : ∃ body last, d.steps = body ++ [last] ∧ last.kind = .tag
  oneRest : d.steps.countP Step.isRest ≤ 1
  restKind : ∀ st ∈ d.steps, st.isRest = true → st.kind = .clear ∨ st.kind = .cipher ∨ st.kind = .skip

theorem RecipeDef.wellShaped {d : RecipeDef} (h : d.sound = true) : d.WellShaped := by
  simp only [RecipeDef.sound, Bool.and_eq_true, beq_iff_eq, decide_eq_true_eq, List.all_eq_true, List.mem_filter,
    Bool.or_eq_true, ← List.countP_eq_length_filter, Option.map_eq_some_iff, List.getLast?_eq_some_iff] at h
  obtain ⟨⟨⟨⟨⟨oneHeader, oneTag⟩, last, ⟨body, split⟩, tag⟩, oneRest⟩, restKind⟩, -⟩ := h
  exact ⟨oneHeader, oneTag, ⟨body, last, split, tag⟩, oneRest,
    fun st mem rest => by simpa [or_assoc] using restKind st ⟨mem, rest⟩⟩

/-- What TAG reads at the end of the input (R56). -/
def tagReads (t : TagLen) : Direction → Nat
  | .toProtect => 0
  | .toAdmit => tagLenNat t

/-- The fixed input sum of a direction: the fixed steps, the header and the tag (R60). -/
theorem RecipeDef.fixedSum_eq (d : RecipeDef) (dir : Direction) :
    d.fixedSum dir = d.protectSum + headerReads dir + tagReads d.tagLen dir := by cases dir <;> rfl

@[simp] theorem resolveStep_kind (rest : Nat) (st : Step) : (resolveStep rest st).1 = st.kind := by
  unfold resolveStep; split <;> rfl

theorem headerCount_resolved (rest : Nat) (steps : List Step) :
    headerCount (steps.map (resolveStep rest)) = steps.countP fun st => st.kind == .header := by
  simp [headerCount, List.countP_map, Function.comp_def]

/-- A step reads its fixed length, the rest if it is REST, and the header if it is HEADER (R52, R60). -/
theorem stepReads_resolveStep (dir : Direction) (rest : Nat) {st : Step}
    (restKind : st.isRest = true → st.kind = .clear ∨ st.kind = .cipher ∨ st.kind = .skip) :
    stepReads dir (resolveStep rest st) = stepFixed st + (if st.isRest = true then rest else 0) +
      if st.kind = .header then headerReads dir else 0 := by
  obtain ⟨kind, len⟩ := st
  cases len with
  | fixed m => cases kind <;> simp [stepReads, resolveStep, stepFixed, Step.isRest]
  | rest => cases kind <;> simp_all [stepReads, resolveStep, stepFixed, Step.isRest]

theorem layoutReads_resolved (dir : Direction) (rest : Nat) {steps : List Step}
    (restKind : ∀ st ∈ steps, st.isRest = true → st.kind = .clear ∨ st.kind = .cipher ∨ st.kind = .skip) :
    layoutReads dir (steps.map (resolveStep rest)) = (steps.map stepFixed).sum + rest * steps.countP Step.isRest +
      headerReads dir * steps.countP fun st => st.kind == .header := by
  induction steps with
  | nil => rfl
  | cons st steps ih =>
    rw [List.map_cons, layoutReads_cons, stepReads_resolveStep dir rest (restKind st List.mem_cons_self),
      ih fun st mem => restKind st (List.mem_cons_of_mem _ mem), List.map_cons, List.sum_cons, List.countP_cons,
      List.countP_cons, Nat.mul_add, Nat.mul_add]
    simp only [beq_iff_eq]
    split <;> split <;> omega

/-- A length resolves to the steps with what is beyond the fixed sum given to REST (R60, R61). -/
theorem resolve_eq_some {d : RecipeDef} {dir : Direction} {m : Nat} {layout : List (StepKind × Nat)}
    (h : resolve d dir m = some layout) :
    layout = d.steps.map (resolveStep (m - d.fixedSum dir)) ∧
      if d.hasRest = true then d.fixedSum dir ≤ m else m = d.fixedSum dir := by
  obtain ⟨⟨-, -, -, fits⟩, layout_eq⟩ := Option.ite_none_right_eq_some.1 h
  exact ⟨(Option.some.inj layout_eq).symm, fits⟩

/-- A sound recipe reads the whole input by BODY and, when it admits, the tag by TAG (R52, R60). -/
theorem layoutReads_of_resolve {d : RecipeDef} (shape : d.WellShaped) {dir : Direction} {m : Nat}
    {layout : List (StepKind × Nat)} (h : resolve d dir m = some layout) :
    layoutReads dir layout + tagReads d.tagLen dir = m := by
  obtain ⟨rfl, fits⟩ := resolve_eq_some h
  have sum : d.fixedSum dir = _ := d.fixedSum_eq dir
  rw [layoutReads_resolved dir _ shape.restKind, shape.oneHeader, ← RecipeDef.protectSum]
  split at fits
  · rename_i some_rest
    have counted : 0 < d.steps.countP Step.isRest := List.countP_pos_iff.2 (List.any_eq_true.1 some_rest)
    rw [show d.steps.countP Step.isRest = 1 from le_antisymm shape.oneRest counted]
    omega
  · rename_i no_rest
    have counted : d.steps.countP Step.isRest = 0 :=
      List.countP_eq_zero.2 fun st mem rest => no_rest (List.any_eq_true.2 ⟨st, mem, rest⟩)
    rw [counted]
    omega

theorem headerCount_of_resolve {d : RecipeDef} (shape : d.WellShaped) {dir : Direction} {m : Nat}
    {layout : List (StepKind × Nat)} (h : resolve d dir m = some layout) : headerCount layout = 1 := by
  rw [(resolve_eq_some h).1, headerCount_resolved, shape.oneHeader]

/-! ## The output length -/

theorem bodyRun_output_length (k : ContextKey) (n : Nonce) {f : WorkFrame} (ten : f.header.length = 10)
    (enough : layoutReads f.job.dir f.job.layout ≤ f.input.length) :
    (bodyRun k n f).output.length = layoutWrites f.job.dir f.job.layout := by
  rw [bodyRun, foldl_bodyStep_output_length ten enough]
  exact Nat.zero_add _

/-- What TAG leaves of a frame's output: a protect's has grown by the tag (R56). -/
theorem tagFrame_output_length (k : ContextKey) (n : Nonce) (f : WorkFrame) :
    (tagFrame k n f).output.length =
      f.output.length + if f.job.dir = .toProtect then tagLenNat f.job.tagLen else 0 := by
  cases dir : f.job.dir with
  | toProtect => simp [tagFrame_protect dir, frameTag_length]
  | toAdmit => simp [tagFrame_admit dir]

/-- BODY and TAG of a frame of exactly its input length leave the length that R63 gives. -/
theorem output_length {d : RecipeDef} (shape : d.WellShaped) (k : ContextKey) (n : Nonce) {f : WorkFrame}
    (resolved : resolve d f.job.dir f.input.length = some f.job.layout) (tagLen : f.job.tagLen = d.tagLen)
    (ten : f.header.length = 10) :
    (tagFrame k n (afterBody k n f)).output.length =
      outputLength f.job.dir f.input.length d.tagLen f.job.layout := by
  have reads := layoutReads_of_resolve shape resolved
  have written := layoutWrites_add_strip f.job.dir f.job.layout
  have body : (afterBody k n f).output.length = layoutWrites f.job.dir f.job.layout :=
    bodyRun_output_length k n ten (by omega)
  rw [headerCount_of_resolve shape resolved] at written
  rw [tagFrame_output_length, body, afterBody_job, tagLen]
  cases dir : f.job.dir with
  | toProtect =>
    simp only [dir, tagReads, headerReads, headerWrites, outputLength, if_true] at reads written ⊢
    omega
  | toAdmit =>
    simp only [dir, tagReads, headerReads, headerWrites, outputLength, reduceCtorEq, if_false] at reads written ⊢
    omega

/-- Settles O22. -/
theorem outputHasResolvedLength : Obligations.OutputHasResolvedLength := by
  intro l s f k n d running work phase fetched nonce sound resolved tagLen ten
  obtain ⟨t, u, body, tag, left, -⟩ := exec_body_tag running work fetched nonce phase
  exact ⟨t, u, _, body, tag, left, output_length (RecipeDef.wellShaped sound) k.key n resolved tagLen ten⟩

end Sys2Proof.Machine
end

section
/-! PROOFS. Admitting a protected frame: its BODY follows the protect's step by step. -/

namespace Sys2Proof.Machine
open Sys2Proof

/-! ## Combining twice -/

/-- The same keystream bytes, combined twice, leave the bytes as they were (R54, assumption 32). -/
theorem combine_combine (k : ContextKey) (n : Nonce) (start : Nat) (bs : List Byte) :
    combine k n start (combine k n start bs) = bs := by
  simp only [combine, List.mapIdx_mapIdx, Function.comp_def, BitVec.xor_assoc, BitVec.xor_self, BitVec.xor_zero]
  exact List.mapIdx_eq_iff.2 fun i => by simp

/-! ## The two runs, side by side -/

/-- A protect's BODY at work on the input `x`, and the admitting BODY at work on the frame `y` that the protect makes:
what the latter has given back and the former has still to read are `x`; what the former has made and the latter has
still to read are `y`; both have gathered the same tag inputs and used as much keystream. -/
structure Mirrors (x y : List Byte) (p a : BodyRun) : Prop where
  input : a.output ++ p.input = x
  frame : p.output ++ a.input = y
  used : a.used = p.used
  authClear : a.authClear = p.authClear
  cipherBytes : a.cipherBytes = p.cipherBytes

/-- Both begin with nothing done. -/
theorem Mirrors.start (x y : List Byte) :
    Mirrors x y { input := x, used := 0, output := [], authClear := [], cipherBytes := [] }
      { input := y, used := 0, output := [], authClear := [], cipherBytes := [] } := ⟨rfl, rfl, rfl, rfl, rfl⟩

section
variable {k : ContextKey} {n : Nonce} {hdr : List Byte}

/-- A step only adds to the output. -/
theorem bodyStep_output_prefix (d : Direction) (r : BodyRun) (q : StepKind × Nat) :
    r.output <+: (bodyStep d k n hdr r q).output := by
  obtain ⟨kind, m⟩ := q
  cases kind <;> cases d <;> simp [bodyStep]

theorem foldl_bodyStep_output_prefix (d : Direction) (layout : List (StepKind × Nat)) (r : BodyRun) :
    r.output <+: (layout.foldl (bodyStep d k n hdr) r).output := by
  induction layout generalizing r with
  | nil => exact List.prefix_rfl
  | cons q layout ih => exact (bodyStep_output_prefix d r q).trans (ih _)

variable {x y : List Byte} {p a : BodyRun}

/-- What the protect reads next is what the admitting side gives back next. -/
theorem Mirrors.next_given (h : Mirrors x y p a) {here later : List Byte} (input : p.input = here ++ later) :
    a.output ++ here ++ later = x := by
  rw [← h.input, input, List.append_assoc]

/-- What the protect writes next is what the admitting side reads next. -/
theorem Mirrors.next_read (h : Mirrors x y p a) {w : List Byte} (made : p.output ++ w <+: y) :
    ∃ rest, a.input = w ++ rest ∧ p.output ++ w ++ rest = y := by
  obtain ⟨rest, made⟩ := made
  refine ⟨rest, List.append_cancel_left (as := p.output) ?_, made⟩
  rw [h.frame, ← made, List.append_assoc]

/-- A step other than STRIP, taken by the protect and then by the admitting side (R52 to R54). -/
theorem Mirrors.step (h : Mirrors x y p a) (ten : hdr.length = 10) {hdr' : List Byte} {q : StepKind × Nat}
    (kept : q.1 ≠ .strip) (enough : stepReads .toProtect q ≤ p.input.length)
    (made : (bodyStep .toProtect k n hdr p q).output <+: y) :
    Mirrors x y (bodyStep .toProtect k n hdr p q) (bodyStep .toAdmit k n hdr' a q) := by
  obtain ⟨kind, m⟩ := q
  cases kind with
  | strip => exact absurd rfl kept
  | tag => exact h
  | header =>
    rw [bodyStep_header_protect] at made ⊢
    obtain ⟨rest, next, frame⟩ := h.next_read made
    rw [bodyStep_header_admit next ten]
    exact ⟨h.input, frame, h.used, by rw [h.authClear], h.cipherBytes⟩
  | clear =>
    obtain ⟨here, later, input, rfl⟩ := exists_read enough
    rw [bodyStep_clear input] at made ⊢
    obtain ⟨rest, next, frame⟩ := h.next_read made
    rw [bodyStep_clear next]
    exact ⟨h.next_given input, frame, h.used, by rw [h.authClear], h.cipherBytes⟩
  | skip =>
    obtain ⟨here, later, input, rfl⟩ := exists_read enough
    rw [bodyStep_skip input] at made ⊢
    obtain ⟨rest, next, frame⟩ := h.next_read made
    rw [bodyStep_skip next]
    exact ⟨h.next_given input, frame, h.used, h.authClear, h.cipherBytes⟩
  | cipher =>
    obtain ⟨here, later, input, rfl⟩ := exists_read enough
    rw [bodyStep_cipher input] at made ⊢
    obtain ⟨rest, next, frame⟩ := h.next_read made
    rw [← combine_length k n p.used here, bodyStep_cipher next, h.used, combine_combine]
    exact ⟨h.next_given input, frame, by rw [combine_length], h.authClear, by rw [h.cipherBytes]; rfl⟩

/-- The steps of a layout without STRIP, taken by the protect and then by the admitting side. -/
theorem Mirrors.steps (h : Mirrors x y p a) (ten : hdr.length = 10) {hdr' : List Byte} {layout : List (StepKind × Nat)}
    (kept : ∀ q ∈ layout, q.1 ≠ .strip) (enough : layoutReads .toProtect layout ≤ p.input.length)
    (made : (layout.foldl (bodyStep .toProtect k n hdr) p).output <+: y) :
    Mirrors x y (layout.foldl (bodyStep .toProtect k n hdr) p) (layout.foldl (bodyStep .toAdmit k n hdr') a) := by
  induction layout generalizing p a with
  | nil => exact h
  | cons q layout ih =>
    obtain ⟨here, later⟩ := enough_cons (k := k) (n := n) (x := hdr) enough
    exact ih (h.step ten (kept q List.mem_cons_self) here ((foldl_bodyStep_output_prefix _ layout _).trans made))
      (fun r mem => kept r (List.mem_cons_of_mem q mem)) later made

/-! ## The header's place -/

/-- CLEAR, CIPHER and SKIP write what they read (R52). -/
theorem stepWrites_plain (d : Direction) {q : StepKind × Nat} (no_header : q.1 ≠ .header) (no_strip : q.1 ≠ .strip)
    (no_tag : q.1 ≠ .tag) : stepWrites d q = q.2 := by
  unfold stepWrites
  split
  case h_1 e => exact absurd e no_header
  case h_2 e => exact absurd e no_strip
  case h_3 e => exact absurd e no_tag
  all_goals rfl

/-- A protect's BODY puts the header where the same layout looks for it in admitting, so long as no STRIP, which reads
more than it writes, and no TAG stand before it (R52, R53). -/
theorem header_at_offset (ten : hdr.length = 10) {body : List (StepKind × Nat)} (tail : List (StepKind × Nat))
    (present : ∃ q ∈ body, q.1 = .header) (plain : ∀ q ∈ body, q.1 ≠ .strip ∧ q.1 ≠ .tag)
    (enough : layoutReads .toProtect (body ++ tail) ≤ p.input.length)
    (made : ((body ++ tail).foldl (bodyStep .toProtect k n hdr) p).output <+: y) :
    (y.drop (p.output.length + headerOffset (body ++ tail))).take 10 = hdr := by
  induction body generalizing p with
  | nil => obtain ⟨q, mem, -⟩ := present; cases mem
  | cons q body ih =>
    obtain ⟨here, later⟩ := enough_cons (k := k) (n := n) (x := hdr) (layout := body ++ tail) enough
    by_cases is_header : q.1 = .header
    · have written : (bodyStep .toProtect k n hdr p q).output = p.output ++ hdr := by
        obtain ⟨kind, m⟩ := q
        cases is_header
        rfl
      obtain ⟨rest, made⟩ := (foldl_bodyStep_output_prefix _ (body ++ tail) _).trans made
      have offset : headerOffset (q :: body ++ tail) = 0 := by simp [headerOffset, is_header]
      rw [offset, ← made, written, Nat.add_zero, List.append_assoc, List.drop_left, List.take_left' ten]
    · have length := bodyStep_output_length (k := k) (n := n) ten here
      obtain ⟨no_strip, no_tag⟩ := plain q List.mem_cons_self
      have writes : stepWrites .toProtect q = q.2 := stepWrites_plain _ is_header no_strip no_tag
      have offset : headerOffset (q :: body ++ tail) = q.2 + headerOffset (body ++ tail) := by
        simp [headerOffset, is_header]
      have present' : ∃ r ∈ body, r.1 = .header := by
        obtain ⟨r, mem, hr⟩ := present
        rcases List.mem_cons.1 mem with rfl | mem
        · exact absurd hr is_header
        · exact ⟨r, mem, hr⟩
      rw [offset, ← Nat.add_assoc, ← writes, ← length]
      exact ih present' (fun r mem => plain r (List.mem_cons_of_mem q mem)) later made

end

/-- A sound recipe's layout is the tag's step after steps among which the header and no tag is (R59). -/
theorem RecipeDef.WellShaped.layout_split {d : RecipeDef} (shape : d.WellShaped) (rest : Nat) :
    ∃ body last, d.steps.map (resolveStep rest) = body ++ [last] ∧ (∃ q ∈ body, q.1 = .header) ∧
      ∀ q ∈ body, q.1 ≠ .tag := by
  obtain ⟨body, last, steps, tag⟩ := shape.tagLast
  have oneHeader := shape.oneHeader
  have oneTag := shape.oneTag
  simp only [steps, List.countP_append, List.countP_singleton, tag] at oneHeader oneTag
  refine ⟨body.map (resolveStep rest), resolveStep rest last, by simp [steps], ?_, ?_⟩
  · have counted : 0 < body.countP fun st => st.kind == .header := by simpa using oneHeader.ge
    obtain ⟨st, mem, kind⟩ := List.countP_pos_iff.1 counted
    exact ⟨_, List.mem_map_of_mem mem, by simpa using kind⟩
  · have counted : body.countP (fun st => st.kind == .tag) = 0 := by simpa using oneTag
    intro q mem
    obtain ⟨st, listed, rfl⟩ := List.mem_map.1 mem
    simpa using List.countP_eq_zero.1 counted st listed

/-! ## The frames -/

/-- A protect's frame after HEADER, BODY and TAG. -/
def protectedFrame (k : FetchedKey) (f : WorkFrame) : WorkFrame :=
  tagFrame k.key (nonceOf k f.job.reserved) (afterBody k.key (nonceOf k f.job.reserved) (buildHeader k f))

/-- A protect and the admitting of the frame it made, by one recipe without STRIP and under one key, salt, generation and
marker; `n` is the protect's nonce. -/
structure Readmits (d : RecipeDef) (k : FetchedKey) (n : Nonce) (f g : WorkFrame) : Prop where
  shape : d.WellShaped
  noStrip : ∀ st ∈ d.steps, st.kind ≠ .strip
  protects : f.job.dir = .toProtect
  reserved : f.job.reserved ≠ 0
  tagLen : f.job.tagLen = d.tagLen
  resolved : resolve d .toProtect f.input.length = some f.job.layout
  admits : g.job.dir = .toAdmit
  tag : g.job.tag = f.job.tag
  marker : g.job.marker = k.marker
  tagLen' : g.job.tagLen = d.tagLen
  resolved' : resolve d .toAdmit g.input.length = some g.job.layout
  nonce : n = nonceOf k f.job.reserved
  input : g.input = (protectedFrame k f).output

theorem protectedFrame_eq {f : WorkFrame} (k : FetchedKey) (protects : f.job.dir = .toProtect) :
    protectedFrame k f =
      let n := nonceOf k f.job.reserved
      { afterBody k.key n (buildHeader k f) with
        output := (bodyRun k.key n (buildHeader k f)).output ++ frameTag k.key n (afterBody k.key n (buildHeader k f))
        phase := .done .finished } :=
  tagFrame_protect (f := afterBody k.key _ (buildHeader k f)) protects _ _

theorem buildHeader_header_length (k : FetchedKey) (f : WorkFrame) : (buildHeader k f).header.length = 10 :=
  streamHeader_length _ _ _ _

section
variable {d : RecipeDef} {k : FetchedKey} {n : Nonce} {f g : WorkFrame} (h : Readmits d k n f g)
include h

/-- The frame is what BODY left and the tag. -/
theorem Readmits.input_eq : g.input =
    (bodyRun k.key n (buildHeader k f)).output ++ frameTag k.key n (afterBody k.key n (buildHeader k f)) := by
  rw [h.input, protectedFrame_eq k h.protects, h.nonce]

theorem Readmits.kept : ∀ q ∈ f.job.layout, q.1 ≠ .strip := by
  rw [(resolve_eq_some h.resolved).1]
  intro q mem
  obtain ⟨st, listed, rfl⟩ := List.mem_map.1 mem
  rw [resolveStep_kind]
  exact h.noStrip st listed

/-- The frame is longer than the protect's input by the header and the tag. -/
theorem Readmits.input_length : g.input.length = f.input.length + 10 + tagLenNat d.tagLen := by
  have dir : (buildHeader k f).job.dir = .toProtect := h.protects
  have length := output_length (f := buildHeader k f) h.shape k.key (nonceOf k f.job.reserved)
    (by rw [dir]; exact h.resolved) h.tagLen (buildHeader_header_length k f)
  have dropped : kindSum .strip f.job.layout = 0 := by
    rw [kindSum, List.filter_eq_nil_iff.2 fun q mem => by simpa using h.kept q mem]
    rfl
  rw [h.input, protectedFrame, length, dir, buildHeader_job, outputLength, dropped]
  rfl

/-- REST has the same length on both sides, so the layouts are the same (R60). -/
theorem Readmits.layout : g.job.layout = f.job.layout := by
  have same : g.input.length - d.fixedSum .toAdmit = f.input.length - d.fixedSum .toProtect := by
    have admitSum := d.fixedSum_eq .toAdmit
    have protectSum := d.fixedSum_eq .toProtect
    simp only [headerReads, tagReads] at admitSum protectSum
    have length := h.input_length
    omega
  rw [(resolve_eq_some h.resolved').1, (resolve_eq_some h.resolved).1, same]

theorem Readmits.reads : layoutReads .toProtect f.job.layout = f.input.length :=
  layoutReads_of_resolve h.shape h.resolved

/-- The protect's BODY, in its own direction. -/
theorem Readmits.protectRun : bodyRun k.key n (buildHeader k f) =
    f.job.layout.foldl (bodyStep .toProtect k.key n (buildHeader k f).header)
      { input := f.input, used := 0, output := [], authClear := [], cipherBytes := [] } := by
  rw [bodyRun, buildHeader_job, h.protects]
  rfl

/-- The admitting BODY, in its own direction and by the protect's layout. -/
theorem Readmits.admitRun : bodyRun k.key n (parseHeader k g) =
    f.job.layout.foldl (bodyStep .toAdmit k.key n (parseHeader k g).header)
      { input := g.input, used := 0, output := [], authClear := [], cipherBytes := [] } := by
  rw [bodyRun, parseHeader_job, h.admits, h.layout]
  rfl

theorem Readmits.body_prefix : (bodyRun k.key n (buildHeader k f)).output <+: g.input := ⟨_, h.input_eq.symm⟩

/-- The admitting side finds the header that the protect built. -/
theorem Readmits.received :
    receivedHeader g = streamHeader f.job.tag k.marker f.job.tagLen f.job.reserved := by
  obtain ⟨body, last, split, present, no_tag⟩ := h.shape.layout_split (f.input.length - d.fixedSum .toProtect)
  rw [← (resolve_eq_some h.resolved).1] at split
  have plain : ∀ q ∈ body, q.1 ≠ .strip ∧ q.1 ≠ .tag := fun q mem =>
    ⟨h.kept q (split ▸ List.mem_append_left _ mem), no_tag q mem⟩
  have made := h.body_prefix
  rw [h.protectRun, split] at made
  have found := header_at_offset (buildHeader_header_length k f) [last] present plain
    (by rw [← split, h.reads]) made
  rw [receivedHeader, h.layout, split]
  rwa [List.length_nil, Nat.zero_add] at found

theorem Readmits.sequence : (receivedHeader g).drop 4 = bytesOf 6 f.job.reserved.toNat := by
  rw [h.received, streamHeader_drop]

/-- The tests of HEADER pass, and the nonce is the protect's (R58, R65). -/
theorem Readmits.parsed :
    parseHeader k g = { g with header := receivedHeader g, nonce := some n, phase := .body } := by
  have passes : headerPasses g.job (receivedHeader g) = true := by
    refine (headerPasses_iff h.sequence).2 ⟨?_, h.reserved⟩
    rw [h.received, streamHeader_take, h.tag, h.marker, h.tagLen, h.tagLen']
  rw [parseHeader, parsedSeq_eq h.sequence, if_pos passes, if_pos passes, h.nonce]

/-- The admitting BODY gives back what the protect's BODY read, and gathers the same tag inputs. -/
theorem Readmits.mirrors :
    Mirrors f.input g.input (bodyRun k.key n (buildHeader k f)) (bodyRun k.key n (parseHeader k g)) := by
  have made := h.body_prefix
  rw [h.protectRun] at made ⊢
  rw [h.admitRun]
  exact (Mirrors.start _ _).steps (buildHeader_header_length k f) h.kept h.reads.le made

/-- The protect's input is given back. -/
theorem Readmits.output : (bodyRun k.key n (parseHeader k g)).output = f.input := by
  have spent : (bodyRun k.key n (buildHeader k f)).input = [] := by
    rw [h.protectRun, foldl_bodyStep_input, h.reads]
    exact List.drop_length
  have given := h.mirrors.input
  rwa [spent, List.append_nil] at given

/-- Both sides compute one tag, their inputs being the same (R57). -/
theorem Readmits.frameTag_eq :
    frameTag k.key n (afterBody k.key n (parseHeader k g)) = frameTag k.key n (afterBody k.key n (buildHeader k f)) := by
  simp only [frameTag, afterBody, h.mirrors.authClear, h.mirrors.cipherBytes, buildHeader_job, parseHeader_job,
    h.tagLen, h.tagLen']

/-- The received tag is the one the protect appended (R56). -/
theorem Readmits.receivedTag_eq :
    receivedTag (afterBody k.key n (parseHeader k g)) = frameTag k.key n (afterBody k.key n (buildHeader k f)) := by
  have length := frameTag_length k.key n (afterBody k.key n (buildHeader k f))
  rw [afterBody_job, buildHeader_job, h.tagLen] at length
  have input : (afterBody k.key n (parseHeader k g)).input = g.input := rfl
  rw [receivedTag, input, afterBody_job, parseHeader_job, h.tagLen', h.input_eq, List.length_append, length,
    Nat.add_sub_cancel, List.drop_left]

/-- The tags compare equal (R102). -/
theorem Readmits.verified : tagFrame k.key n (afterBody k.key n (parseHeader k g)) =
    { afterBody k.key n (parseHeader k g) with phase := .done .verified } := by
  rw [tagFrame_admit (f := afterBody k.key n (parseHeader k g)) h.admits, h.receivedTag_eq, h.frameTag_eq, if_pos rfl]

end

theorem lane_of_queue (s : State) (q : List Entry) (l : LaneId) : ({ s with queue := q } : State).lane l = s.lane l := by
  cases l <;> rfl

/-- HEADER, BODY and TAG of a protect (R100 to R102). -/
theorem exec_protect {l : LaneId} {s : State} {f : WorkFrame} {k : FetchedKey} (running : s.power = .running)
    (work : (s.lane l).work = some f) (phase : f.phase = .header) (fetched : f.fetched = some k)
    (protects : f.job.dir = .toProtect) :
    ∃ s1 s2 s3, exec (.header l) s = .next s1 ∧ exec (.body l) s1 = .next s2 ∧ exec (.tag l) s2 = .next s3 ∧
      (s3.lane l).work = some (protectedFrame k f) := by
  obtain ⟨s2, s3, body, tag, left, -⟩ := exec_body_tag (l := l) (s := setWork l (buildHeader k f) s)
    (f := buildHeader k f) (n := nonceOf k f.job.reserved) (by rw [setWork_power, running]) (by rw [setWork_lane])
    fetched rfl rfl
  exact ⟨_, s2, s3, exec_header_protect running work fetched phase protects, body, tag, left⟩

/-- HEADER, BODY and TAG in admitting a frame that a protect made (R100 to R103). -/
theorem Readmits.exec_admit {d : RecipeDef} {k : FetchedKey} {n : Nonce} {f g : WorkFrame} (h : Readmits d k n f g)
    {m : LaneId} {t : State} (running : t.power = .running) (work : (t.lane m).work = some g) (phase : g.phase = .header)
    (fetched : g.fetched = some k) :
    ∃ t1 t2 t3, exec (.header m) t = .next t1 ∧ exec (.body m) t1 = .next t2 ∧ exec (.tag m) t2 = .next t3 ∧
      (t3.lane m).work = some { afterBody k.key n (parseHeader k g) with phase := .done .verified } ∧
      t3.queue = t.queue.map (writeSeq g.job.id f.job.reserved) := by
  have parsed := exec_header_admit running work fetched phase h.admits
  rw [parsedSeq_eq h.sequence] at parsed
  obtain ⟨t2, t3, body, tag, left, queue⟩ := exec_body_tag (l := m) (f := parseHeader k g) (k := k) (n := n)
    (s := { setWork m (parseHeader k g) t with queue := t.queue.map (writeSeq g.job.id f.job.reserved) })
    ((setWork_power ..).trans running) (by rw [lane_of_queue, setWork_lane]) fetched (by rw [h.parsed])
    (by rw [h.parsed])
  rw [h.verified] at left
  exact ⟨_, t2, t3, parsed, body, tag, left, queue⟩

/-- Settles O23. -/
theorem admitUndoesProtect : Obligations.AdmitUndoesProtect := by
  intro l m s t f g k d running work phase fetched protects reserved sound noStrip tagLen resolved running' work' phase'
    fetched' admits tag marker tagLen' resolved'
  obtain ⟨s1, s2, s3, built, body, tagged, left⟩ := exec_protect running work phase fetched protects
  refine ⟨s1, s2, s3, _, built, body, tagged, left, by rw [protectedFrame_eq k protects], fun input => ?_⟩
  have h : Readmits d k (nonceOf k f.job.reserved) f g := ⟨RecipeDef.wellShaped sound, noStrip, protects, reserved,
    tagLen, resolved, admits, tag, marker, tagLen', resolved', rfl, input⟩
  obtain ⟨t1, t2, t3, parsed, body', compared, left', queue⟩ := h.exec_admit running' work' phase' fetched'
  refine ⟨t1, t2, t3, _, parsed, body', compared, left', rfl, h.output, fun e mem id => ?_⟩
  rw [queue]
  exact List.mem_map.2 ⟨_, mem, by rw [writeSeq, if_pos id]⟩

end Sys2Proof.Machine
end

section
/-! PROOFS. What ending jobs does to the Return Queue's entries, the lanes and the intake. -/

namespace Sys2Proof.Machine
open Sys2Proof

/-! ## Ended jobs -/

/-- The entry is not ENDED: PENDING or FINISHED. -/
def Status.isOpen (x : Status) : Prop := ∀ v, x ≠ .ended v

/-- A LANE entry, open, of one of the jobs becomes ENDED (R104, R115). -/
theorem endEntry_open {ids : List Nat} {e : LaneEntry} (v : EndVerdict) (hid : e.job.id ∈ ids) (ho : e.status.isOpen) :
    endEntry ids v (.lane e) = .lane { e with status := .ended v } := by
  have listed : ids.contains e.job.id = true := List.contains_iff_mem.2 hid
  cases hs : e.status with
  | ended x => exact absurd hs (ho x)
  | pending => simp only [endEntry, hs, listed, if_true]
  | finished c n => simp only [endEntry, hs, listed, if_true]

/-- An entry of another job is left, and one that is ENDED (R104). -/
theorem endEntry_other {ids : List Nat} {e : LaneEntry} (v : EndVerdict)
    (h : e.job.id ∉ ids ∨ ∃ x, e.status = .ended x) : endEntry ids v (.lane e) = .lane e := by
  cases hs : e.status with
  | ended x => simp only [endEntry, hs]
  | pending => simp_all [endEntry]
  | finished c n => simp_all [endEntry]

/-- The open entries after jobs are ended: those of the other jobs (R104). -/
theorem lane_mem_map_endEntry {q : List Entry} {ids : List Nat} {v : EndVerdict} {e : LaneEntry}
    (ho : e.status.isOpen) :
    .lane e ∈ q.map (endEntry ids v) ↔ .lane e ∈ q ∧ e.job.id ∉ ids := by
  constructor
  · intro h
    obtain ⟨d, hd, he⟩ := List.mem_map.1 h
    cases d with
    | refused r => cases he
    | lane d =>
      by_cases hid : d.job.id ∈ ids ∧ d.status.isOpen
      · rw [endEntry_open v hid.1 hid.2] at he
        cases he
        exact absurd rfl (ho v)
      · have other : d.job.id ∉ ids ∨ ∃ x, d.status = .ended x := by
          unfold Status.isOpen at hid
          by_contra hn
          exact hid ⟨by tauto, fun x hx => hn (.inr ⟨x, hx⟩)⟩
        rw [endEntry_other v other] at he
        cases he
        exact ⟨hd, other.resolve_right fun ⟨x, hx⟩ => ho x hx⟩
  · rintro ⟨h, hid⟩
    exact List.mem_map.2 ⟨_, h, endEntry_other v (.inl hid)⟩

theorem endEntry_jobId (ids : List Nat) (v : EndVerdict) (d : Entry) : (endEntry ids v d).jobId = d.jobId := by
  cases d with
  | refused e => rfl
  | lane e => simp only [endEntry]; split <;> [rfl; (split <;> rfl); (split <;> rfl)]

/-- A lane's positions after jobs are ended (R104). -/
theorem lane_endJobs (ids : List Nat) (v : EndVerdict) (s : State) (l : LaneId) :
    (endJobs ids v s).lane l = (s.lane l).dropJobs ids := by
  cases l <;> rfl

/-- The intake goes on streaming the jobs that are not ended alone (R90). -/
theorem dropStreaming_eq_streaming {ids : List Nat} {i : Intake} {j : Job} {l : LaneId} {n : Nat} :
    dropStreaming ids i = .streaming j l n ↔ i = .streaming j l n ∧ j.id ∉ ids := by
  cases i with
  | streaming k m c =>
    by_cases hk : k.id ∈ ids
    · simp only [dropStreaming, List.contains_iff_mem.2 hk, if_true]
      constructor
      · intro h; cases h
      · rintro ⟨h, hj⟩; cases h; exact absurd hk hj
    · simp only [dropStreaming, List.contains_iff_mem, hk, if_false]
      constructor
      · intro h; cases h; exact ⟨rfl, hk⟩
      · exact fun h => h.1
  | _ => simp [dropStreaming]

/-- Settles O25. -/
theorem endedJobsLeaveTheirLanes : Obligations.EndedJobsLeaveTheirLanes := by
  intro ids v s
  have entry : ∀ {i : Nat} {d e : Entry}, s.queue[i]? = some d → endEntry ids v d = e →
      (endJobs ids v s).queue[i]? = some e := by
    intro i d e hd he
    simp [endJobs, hd, he]
  refine ⟨rfl, List.length_map .., fun i e he hid ho => entry he (endEntry_open v hid ho),
    fun i e he h => entry he (endEntry_other v h), fun i e he => entry he rfl, fun l => ?_, ?_, fun h => ?_⟩
  · rw [lane_endJobs]
    refine ⟨rfl, fun f => ?_, fun f => ?_, fun f => ?_⟩
    all_goals simp [Lane.dropJobs]
  · rintro ⟨j, l, n, hi, hj⟩
    show dropStreaming ids s.intake = _
    simp [hi, dropStreaming, hj]
  · show dropStreaming ids s.intake = _
    cases hi : s.intake with
    | streaming j l n => exact dropStreaming_eq_streaming.2 ⟨rfl, fun hj => h ⟨j, l, n, hi, hj⟩⟩
    | _ => rfl

end Sys2Proof.Machine
end

section
/-! PROOFS. Words on Frame In, the Lane Arbiter, and the frames refused. -/

namespace Sys2Proof.Machine
open Sys2Proof

/-! ## Taking a word -/

/-- A word with the first marker is held, or with the last marker too leaves AWAIT_JOB, in the form the statements give
the intake after any word (R73, R89). -/
theorem wordInAwait_first {w : FrameWord} (h : w.first = true) (s : State) :
    wordInAwait w s = { s with
      intake := if w.first && !w.last then .jobWord w.data else if w.last then .awaitJob else .discarding } := by
  simp only [wordInAwait, h]
  cases w.last <;> rfl

/-- Settles O6. -/
theorem awaitJobTakesFirstWord : Obligations.AwaitJobTakesFirstWord := by
  intro w s running await
  have taken : exec (.jobFirstWord w) s = .next (whenRunning (frameInWord [] w) s) := rfl
  rw [taken, whenRunning_running running]
  simp only [frameInWord, await, wordInAwait]

theorem Lane.qualifies_iff (x : Lane) : x.qualifies = true ↔ x.state = .online ∧ x.stage = none := by
  simp [Lane.qualifies]

theorem anyOnline_eq_false_iff (s : State) : anyOnline s = false ↔ ∀ l : LaneId, (s.lane l).state = .offline := by
  have offline : ∀ x : LaneState, (x == .online) = false ↔ x = .offline := fun x => by cases x <;> decide
  unfold anyOnline
  rw [Bool.or_eq_false_iff, offline, offline]
  exact ⟨fun ⟨ha, hb⟩ l => by cases l <;> assumption, fun h => ⟨h .laneA, h .laneB⟩⟩

/-- The acceptance condition (R75, R114). -/
theorem accepting_iff (s : State) :
    accepting s = true ↔ s.queue.length < 8 ∧
      ((∃ l : LaneId, (s.lane l).qualifies = true) ∨ ∀ l : LaneId, (s.lane l).state = .offline) := by
  have lanes : (s.laneA.qualifies = true ∨ s.laneB.qualifies = true) ↔ ∃ l : LaneId, (s.lane l).qualifies = true :=
    ⟨fun h => h.elim (⟨.laneA, ·⟩) (⟨.laneB, ·⟩), fun ⟨l, h⟩ => by cases l <;> tauto⟩
  rw [← anyOnline_eq_false_iff, ← lanes]
  simp [accepting]

/-- Settles O7. -/
theorem jobWordReplacedByFirstMarker : Obligations.JobWordReplacedByFirstMarker := by
  intro s running
  have first : ∀ w, exec (.jobFirstWord w) s = .next (frameInWord [] w s) := fun w =>
    congrArg _ (whenRunning_running running)
  have header : ∀ w ds dr, exec (.jobHeader w ds dr) s = .next (frameInWord dr w (damage ds s)) := fun w ds dr =>
    congrArg _ (whenRunning_running running)
  refine ⟨?_, ?_, fun w w0 held => ⟨fun low => ⟨?_, fun ds dr => ?_⟩, fun high marked => ?_⟩⟩
  · simp only [accepting_iff, Lane.qualifies_iff]
  · unfold frameInReady
    rw [if_pos running]
    cases s.intake <;> simp
  · rw [first]
    simp [frameInWord, held, low]
  · rw [header]
    simp [frameInWord, held, damage_accepting, low]
  · rw [first]
    simp only [frameInWord, held, high, wordInJobWord, marked, wordInAwait, if_true, Bool.true_and]
    cases w.last <;> rfl

/-- Settles O15. -/
theorem laneArbiterAlternates : Obligations.LaneArbiterAlternates := by
  refine fun s => ⟨fun ha hb => ?_, fun ha hb => ?_, fun ha hb => ?_, fun l => (s.lane l).qualifies_iff⟩
  · simp only [chooseLane, ha, hb]
    cases s.lastLane <;> exact LaneId.noConfusion
  · simp [chooseLane, ha, hb]
  · simp [chooseLane, ha]

/-! ## The frame being streamed -/

theorem frameByteCount_of_not_last {w : FrameWord} (h : w.last = false) : frameByteCount w = 4 := by
  simp [frameByteCount, h]

theorem writeStage_of_some {s : State} {l : LaneId} {f : StageFrame} (h : (s.lane l).stage = some f) (bs : List Byte)
    (arrived : Bool) :
    writeStage l bs arrived s = s.setLane l { s.lane l with
      stage := some { f with bytes := f.bytes ++ bs, arrived := arrived } } := by
  rw [writeStage, h]; rfl

theorem exec_frameWord_streaming {s : State} {j : Job} {l : LaneId} {n : Nat} (running : s.power = .running)
    (streams : s.intake = .streaming j l n) (w : FrameWord) :
    exec (.frameWord w) s = .next (wordInStreaming j l n w s) := by
  have taken : exec (.frameWord w) s = .next (whenRunning (frameInWord [] w) s) := rfl
  rw [taken, whenRunning_running running]
  simp only [frameInWord, streams]

/-- Settles O16. -/
theorem streamedWordWritten : Obligations.StreamedWordWritten := by
  intro w s j l n f running streams stage first fits
  rw [exec_frameWord_streaming running streams]
  rcases fits with ⟨last, room⟩ | ⟨last, whole⟩
  · have short : ¬j.inLen < n + 4 := by omega
    simp [wordInStreaming, first, streamWord, last, frameByteCount_of_not_last last, short, writeStage_of_some stage]
  · simp [wordInStreaming, first, streamWord, last, whole, writeStage_of_some stage]

/-- Settles O17. -/
theorem brokenFramesDropped : Obligations.BrokenFramesDropped := by
  refine ⟨fun w s j l n running streams broken => ?_, fun w s running drops => ?_⟩
  · rw [exec_frameWord_streaming running streams]
    cases first : w.first with
    | true =>
      rw [wordInStreaming, if_pos first, wordInAwait_first first, first]
      rfl
    | false =>
      rcases broken with h | long | ⟨last, short⟩
      · rw [first] at h; cases h
      · simp [wordInStreaming, first, streamWord, long, endFraming]
      · have whole : n + frameByteCount w ≠ j.inLen := by omega
        have fits : ¬j.inLen < n + frameByteCount w := by omega
        simp [wordInStreaming, first, streamWord, last, fits, whole, endFraming]
  · have taken : exec (.discardWord w) s = .next (whenRunning (frameInWord [] w) s) := rfl
    rw [taken, whenRunning_running running]
    simp only [frameInWord, drops, wordInDiscarding]
    split
    · rename_i first
      rw [wordInAwait_first first]
    · rename_i first
      simp only [first, Bool.false_and]
      rfl

/-! ## Refusals -/

/-- Check 4 finds no slot (R34, R35). -/
theorem lookupSlot_error {s : State} {h : JobHeader} {v : Verdict}
    (none_found : h.dir = .toProtect ∧ s.entry h.tag = DirEntry.empty ∧ v = .noContext ∨
      h.dir = .toProtect ∧ s.entry h.tag ≠ DirEntry.empty ∧ (s.entry h.tag).active = none ∧ v = .noActive ∨
      h.dir = .toAdmit ∧ (∀ b ∈ (s.entry h.tag).bound, slotMarker s b.1 ≠ some h.marker) ∧ v = .noContext) :
    lookupSlot h s = .error v := by
  rcases none_found with ⟨dir, unknown, rfl⟩ | ⟨dir, known, vacant, rfl⟩ | ⟨dir, other, rfl⟩
  · simp [lookupSlot, dir, unknown]
  · simp [lookupSlot, dir, known, vacant]
  · have search : ((s.entry h.tag).bound.find? fun b => slotMarker s b.1 == some h.marker) = none :=
      List.find?_eq_none.2 fun b hb => by simpa using other b hb
    simp [lookupSlot, dir, search]

/-- Settles O8. -/
theorem refusedWithoutSlot : Obligations.RefusedWithoutSlot := by
  intro s w0 w ds dr v h refused
  rw [exec_jobHeader h, takeJobHeader]
  simp only [damage_anyOnline, damage_recipe]
  rcases refused with ⟨offline, rfl⟩ | ⟨online, empty, rfl⟩ |
    ⟨d, online, defined, ⟨long, rfl⟩ | ⟨layout, resolved, none_found⟩⟩
  · simp only [offline]; rfl
  · simp only [online, empty]; rfl
  · simp only [online, defined, long]; rfl
  · have lookup : lookupSlot (jobHeaderOf w0 w.data) (damage ds s) = .error v :=
      lookupSlot_error (by simpa only [damage_entry, damage_slotMarker] using none_found)
    simp only [online, defined, resolved, checksFromLookup, lookup]
    rfl

/-- Settles O9. -/
theorem refusedUnderSlot : Obligations.RefusedUnderSlot := by
  intro s w0 w ds dr d layout k c v h intact refused
  have checks : slotChecks (jobHeaderOf w0 w.data) k (damage ds s) = some v := by
    rw [← damage_heldByRecord ds] at refused
    rcases refused with ⟨held, rfl⟩ | ⟨sound, free, ⟨denied, rfl⟩ | ⟨allowed, denied, rfl⟩⟩
    · exact slotChecks_held intact.1 held
    · exact slotChecks_direction intact.1 sound free denied
    · exact slotChecks_recipe intact.1 sound free allowed denied
  rw [exec_jobHeader_found h, recordCheck_intact intact, checksUnder_refused checks, settleDispatch_refuse]

end Sys2Proof.Machine
end

section
/-! PROOFS. Frames, entries and intake, lane by lane. -/

namespace Sys2Proof.Machine
open Sys2Proof

/-! ## The entries of a lane's jobs -/

/-- The job numbers of the LANE entries of a queue. -/
def jobIds (q : List Entry) : List Nat := q.filterMap Entry.jobId

/-- A LANE entry of the queue with the given job, lane and status. -/
def Queued (q : List Entry) (l : LaneId) (j : Job) (x : Status) : Prop :=
  ∃ e : LaneEntry, .lane e ∈ q ∧ e.job = j ∧ e.lane = l ∧ e.status = x

/-- The job's entry is PENDING, at the lane. -/
def Waiting (q : List Entry) (l : LaneId) (j : Job) : Prop := Queued q l j .pending

/-- The job's entry is FINISHED, at the lane. -/
def Done (q : List Entry) (l : LaneId) (j : Job) : Prop := ∃ o n, Queued q l j (.finished o n)

theorem jobIds_append (p q : List Entry) : jobIds (p ++ q) = jobIds p ++ jobIds q := List.filterMap_append

theorem jobIds_map {q : List Entry} {f : Entry → Entry} (h : ∀ d, (f d).jobId = d.jobId) :
    jobIds (q.map f) = jobIds q := by
  rw [jobIds, List.filterMap_map]
  exact congrArg (q.filterMap ·) (funext h)

theorem mem_jobIds_of_lane {q : List Entry} {e : LaneEntry} (h : .lane e ∈ q) : e.job.id ∈ jobIds q :=
  List.mem_filterMap.2 ⟨_, h, rfl⟩

theorem Queued.mem_jobIds {q : List Entry} {l : LaneId} {j : Job} {x : Status} (h : Queued q l j x) :
    j.id ∈ jobIds q := by
  obtain ⟨e, he, rfl, -, -⟩ := h
  exact mem_jobIds_of_lane he

theorem Done.mem_jobIds {q : List Entry} {l : LaneId} {j : Job} (h : Done q l j) : j.id ∈ jobIds q := by
  obtain ⟨o, n, h⟩ := h
  exact Queued.mem_jobIds h

/-- With job numbers told apart, two LANE entries of one job number are one entry. -/
theorem lane_unique {q : List Entry} (h : (jobIds q).Nodup) {d e : LaneEntry} (hd : .lane d ∈ q) (he : .lane e ∈ q)
    (hid : d.job.id = e.job.id) : d = e := by
  by_contra hne
  have apart : q.Pairwise fun a b => ∀ i ∈ a.jobId, ∀ k ∈ b.jobId, i ≠ k := List.pairwise_filterMap.1 h
  have symm : Std.Symm fun a b : Entry => ∀ i ∈ a.jobId, ∀ k ∈ b.jobId, i ≠ k :=
    ⟨fun _ _ g i hi k hk => (g k hk i hi).symm⟩
  exact apart.forall hd he (fun g => hne (Entry.lane.inj g)) _ rfl _ rfl hid

theorem Queued.unique {q : List Entry} (h : (jobIds q).Nodup) {l m : LaneId} {i j : Job} {x y : Status}
    (hi : Queued q l i x) (hj : Queued q m j y) (hid : i.id = j.id) : l = m ∧ i = j ∧ x = y := by
  obtain ⟨d, hd, rfl, rfl, rfl⟩ := hi
  obtain ⟨e, he, rfl, rfl, rfl⟩ := hj
  obtain rfl := lane_unique h hd he hid
  exact ⟨rfl, rfl, rfl⟩

/-! ## A lane and its entries -/

/-- The jobs whose frames stand in a lane's three positions. -/
structure LaneJobs where
  stage : Option Job
  work : Option Job
  out : Option Job

def Lane.jobs (x : Lane) : LaneJobs := ⟨x.stage.map (·.job), x.work.map (·.job), x.out.map (·.job)⟩

/-- A lane against the entries of the queue, `o` being the lane and the job number of the frame in OUT that belongs to
none of them (R95, R96, R98, R115, R129). -/
structure LaneMatches (q : List Entry) (o : Option (LaneId × Nat)) (l : LaneId) (p : LaneJobs) : Prop where
  waiting : ∀ j, Waiting q l j ↔ p.stage = some j ∨ p.work = some j
  apart : ∀ i j, p.stage = some i → p.work = some j → i.id ≠ j.id
  done : ∀ j, Done q l j ↔ p.out = some j ∧ o ≠ some (l, j.id)
  sent : ∀ i, o = some (l, i) → (∃ j, p.out = some j ∧ j.id = i) ∧ i ∉ jobIds q

/-- The intake against the frame in STAGE of a lane (R86, R96). -/
structure Arrives (i : Intake) (l : LaneId) (f : Option StageFrame) : Prop where
  streaming : ∀ j n, i = .streaming j l n → ∃ g, f = some g ∧ g.job = j ∧ g.arrived = false ∧ g.bytes.length = n
  arriving : ∀ g, f = some g → g.arrived = false → ∃ n, i = .streaming g.job l n

/-- An OFFLINE lane holds nothing in STAGE or WORK (R106). -/
def Lane.Cleared (x : Lane) : Prop := x.state = .offline → x.stage = none ∧ x.work = none

/-- What Frame Out holds: the result in sending, and the lane and the job number of the frame in OUT that belongs to no
entry of the queue. -/
structure FrameOut where
  result : Option Sending
  frame : Option (LaneId × Nat)

/-- `FramesMatch` with what Frame Out holds given from outside, so that it can be followed through a release, in which
the entry leaves the queue before its result is in sending. -/
structure FramesHeld (o : FrameOut) (s : State) : Prop where
  sending : s.sending = o.result
  unique : (jobIds s.queue).Nodup
  below : ∀ i ∈ jobIds s.queue, i < s.nextJob
  sentBelow : ∀ l i, o.frame = some (l, i) → i < s.nextJob
  lanes : ∀ l, LaneMatches s.queue o.frame l (s.lane l).jobs
  arrives : ∀ l, Arrives s.intake l (s.lane l).stage
  cleared : ∀ l, (s.lane l).Cleared

/-- The lane whose OUT holds the output bytes of the result in sending. -/
def State.sendsFrom (s : State) : Option LaneId := s.sending.bind Sending.lane

theorem hasEntry_finished {s : State} {j : Job} {l : LaneId} :
    HasEntry s j l Status.isFinished ↔ Done s.queue l j := by
  constructor
  · rintro ⟨e, he, hj, hl, o, n, hs⟩
    exact ⟨o, n, e, he, hj, hl, hs⟩
  · rintro ⟨o, n, e, he, hj, hl, hs⟩
    exact ⟨e, he, hj, hl, o, n, hs⟩

theorem Lane.jobs_stage {x : Lane} {j : Job} : x.jobs.stage = some j ↔ ∃ f, x.stage = some f ∧ f.job = j :=
  Option.map_eq_some_iff

theorem Lane.jobs_work {x : Lane} {j : Job} : x.jobs.work = some j ↔ ∃ f, x.work = some f ∧ f.job = j :=
  Option.map_eq_some_iff

theorem Lane.jobs_out {x : Lane} {j : Job} : x.jobs.out = some j ↔ ∃ f, x.out = some f ∧ f.job = j :=
  Option.map_eq_some_iff

theorem sendsFrom_eq_some_iff {s : State} {l : LaneId} :
    s.sendsFrom = some l ↔ ∃ x, s.sending = some x ∧ x.lane = some l :=
  Option.bind_eq_some_iff

/-- The lane that a result is sent from, with the job number of the frame in its OUT (R129). -/
def State.sentFrame (s : State) : Option (LaneId × Nat) :=
  s.sendsFrom.bind fun l => (s.lane l).out.map fun f => (l, f.job.id)

theorem sentFrame_eq_some_iff {s : State} {l : LaneId} {i : Nat} :
    s.sentFrame = some (l, i) ↔ s.sendsFrom = some l ∧ ∃ f, (s.lane l).out = some f ∧ f.job.id = i := by
  simp only [State.sentFrame, Option.bind_eq_some_iff, Option.map_eq_some_iff, Prod.mk.injEq]
  constructor
  · rintro ⟨m, hm, f, hf, rfl, rfl⟩
    exact ⟨hm, f, hf, rfl⟩
  · rintro ⟨hm, f, hf, rfl⟩
    exact ⟨l, hm, f, hf, rfl, rfl⟩

/-- What Frame Out holds between two steps. -/
def State.frameOut (s : State) : FrameOut := ⟨s.sending, s.sentFrame⟩

theorem FramesMatch.held {s : State} (h : FramesMatch s) : FramesHeld s.frameOut s := by
  have sent : ∀ {l : LaneId} {i : Nat}, s.sentFrame = some (l, i) →
      (∃ j, (s.lane l).jobs.out = some j ∧ j.id = i) ∧ i ∉ jobIds s.queue ∧ i < s.nextJob := by
    intro l i hi
    obtain ⟨hl, f, hf, rfl⟩ := sentFrame_eq_some_iff.1 hi
    obtain ⟨x, hx, hxl⟩ := sendsFrom_eq_some_iff.1 hl
    obtain ⟨g, hg, fresh, low⟩ := h.sent x l hx hxl
    cases hf.symm.trans hg
    exact ⟨⟨_, Lane.jobs_out.2 ⟨f, hf, rfl⟩, rfl⟩, fresh, low⟩
  obtain ⟨unique, below⟩ := h.numbered
  refine ⟨rfl, unique, below, fun l i hi => (sent hi).2.2, fun l => ⟨fun j => ?_, fun i j hi hj => ?_, fun j => ?_,
    fun i hi => ⟨(sent hi).1, (sent hi).2.1⟩⟩, fun l => ⟨fun j n hi => h.streaming j l n hi, h.arriving l⟩, h.offline⟩
  · rw [Lane.jobs_stage, Lane.jobs_work]
    constructor
    · rintro ⟨e, he, rfl, rfl, hs⟩
      exact h.pending e he hs
    · rintro (⟨f, hf, rfl⟩ | ⟨f, hf, rfl⟩)
      · exact h.stage l f hf
      · exact h.work l f hf
  · obtain ⟨f, hf, rfl⟩ := Lane.jobs_stage.1 hi
    obtain ⟨g, hg, rfl⟩ := Lane.jobs_work.1 hj
    exact h.apart l f g hf hg
  · constructor
    · intro hd
      obtain ⟨e, he, rfl, rfl, hs⟩ := hasEntry_finished.2 hd
      exact ⟨Lane.jobs_out.2 (h.finished e he hs), fun hi => (sent hi).2.1 (mem_jobIds_of_lane he)⟩
    · rintro ⟨hj, hn⟩
      obtain ⟨f, hf, rfl⟩ := Lane.jobs_out.1 hj
      refine hasEntry_finished.1 ((h.out l f hf).resolve_right fun hx => hn ?_)
      exact sentFrame_eq_some_iff.2 ⟨sendsFrom_eq_some_iff.2 hx, f, hf, rfl⟩

/-- Frames match if they are held so with the result in sending. -/
theorem FramesHeld.framesMatch {o : FrameOut} {s : State} (h : FramesHeld o s)
    (ho : o.frame.map Prod.fst = o.result.bind Sending.lane) : FramesMatch s where
  numbered := ⟨h.unique, h.below⟩
  stage := fun l f hf => ((h.lanes l).waiting f.job).2 (.inl (Lane.jobs_stage.2 ⟨f, hf, rfl⟩))
  work := fun l f hf => ((h.lanes l).waiting f.job).2 (.inr (Lane.jobs_work.2 ⟨f, hf, rfl⟩))
  apart := fun l f g hf hg => (h.lanes l).apart _ _ (Lane.jobs_stage.2 ⟨f, hf, rfl⟩) (Lane.jobs_work.2 ⟨g, hg, rfl⟩)
  out := fun l f hf => by
    by_cases hi : o.frame = some (l, f.job.id)
    · exact .inr (sendsFrom_eq_some_iff.1 (by rw [State.sendsFrom, h.sending, ← ho, hi]; rfl))
    · exact .inl (hasEntry_finished.2 (((h.lanes l).done f.job).2 ⟨Lane.jobs_out.2 ⟨f, hf, rfl⟩, hi⟩))
  pending := fun e he hs => by
    have placed := ((h.lanes e.lane).waiting e.job).1 ⟨e, he, rfl, rfl, hs⟩
    rwa [Lane.jobs_stage, Lane.jobs_work] at placed
  finished := fun e he hs =>
    Lane.jobs_out.1 (((h.lanes e.lane).done e.job).1 (hasEntry_finished.1 ⟨e, he, rfl, rfl, hs⟩)).1
  sent := fun x l hx hl => by
    have from_lane : o.frame.map Prod.fst = some l := ho.trans (by rw [← h.sending, hx]; exact hl)
    obtain ⟨⟨m, i⟩, hi, rfl⟩ := Option.map_eq_some_iff.1 from_lane
    obtain ⟨⟨j, hj, rfl⟩, fresh⟩ := (h.lanes m).sent i hi
    obtain ⟨f, hf, rfl⟩ := Lane.jobs_out.1 hj
    exact ⟨f, hf, fresh, h.sentBelow m _ hi⟩
  streaming := fun j l n hi => (h.arrives l).streaming j n hi
  arriving := fun l => (h.arrives l).arriving
  offline := h.cleared

theorem FramesMatch.sentFrame_fst {s : State} (h : FramesMatch s) : s.sentFrame.map Prod.fst = s.sendsFrom := by
  cases hl : s.sendsFrom with
  | none => simp [State.sentFrame, hl]
  | some l =>
    obtain ⟨x, hx, hxl⟩ := sendsFrom_eq_some_iff.1 hl
    obtain ⟨f, hf, -⟩ := h.sent x l hx hxl
    simp [State.sentFrame, hl, hf]

/-- Frames match in a state in which they are held as in one in which they match. -/
theorem FramesMatch.keep {s t : State} (h : FramesMatch s) (k : FramesHeld s.frameOut t) : FramesMatch t :=
  k.framesMatch h.sentFrame_fst

end Sys2Proof.Machine
end

section
/-! PROOFS. Frames, entries and intake through the operations of the frame path. -/

namespace Sys2Proof.Machine
open Sys2Proof

/-! ## The blocks of the frame path -/

/-- The blocks that frames, entries and intake are held in. -/
structure FrameBlocks where
  queue : List Entry
  laneA : Lane
  laneB : Lane
  intake : Intake
  sending : Option Sending
  nextJob : Nat

def State.frames (s : State) : FrameBlocks := ⟨s.queue, s.laneA, s.laneB, s.intake, s.sending, s.nextJob⟩

/-- What is held depends on the blocks of the frame path alone. -/
theorem FramesHeld.of_same {o : FrameOut} {s t : State} (h : FramesHeld o s) (queue : t.queue = s.queue)
    (lanes : ∀ l, t.lane l = s.lane l) (intake : t.intake = s.intake) (sending : t.sending = s.sending)
    (nextJob : t.nextJob = s.nextJob) : FramesHeld o t := by
  refine ⟨sending.trans h.sending, queue ▸ h.unique, ?_, ?_, fun l => ?_, fun l => ?_, fun l => ?_⟩
  · rw [queue, nextJob]; exact h.below
  · rw [nextJob]; exact h.sentBelow
  · rw [queue, lanes]; exact h.lanes l
  · rw [intake, lanes]; exact h.arrives l
  · rw [lanes]; exact h.cleared l

theorem FramesHeld.of_frames {o : FrameOut} {s t : State} (h : FramesHeld o s) (e : t.frames = s.frames) :
    FramesHeld o t := by
  obtain ⟨queue, laneA, laneB, intake, sending, nextJob⟩ := FrameBlocks.mk.inj e
  exact h.of_same queue (fun l => by cases l <;> assumption) intake sending nextJob

/-! ## Entries changed in place -/

/-- A lane whose entries keep job and status, in a queue of the same job numbers, still matches. -/
theorem LaneMatches.of_queued {p q : List Entry} {o : Option (LaneId × Nat)} {l : LaneId} {x : LaneJobs}
    (h : LaneMatches p o l x) (waiting : ∀ j, Waiting q l j ↔ Waiting p l j) (done : ∀ j, Done q l j ↔ Done p l j)
    (sent : ∀ i, o = some (l, i) → i ∉ jobIds q) : LaneMatches q o l x :=
  ⟨fun j => (waiting j).trans (h.waiting j), h.apart, fun j => (done j).trans (h.done j),
    fun i hi => ⟨(h.sent i hi).1, sent i hi⟩⟩

/-- HEADER writes the sequence of a received frame into an entry, which keeps job, lane and status (R100, R115). -/
theorem queued_map_writeSeq {q : List Entry} {i : Nat} {seq : SeqNo} {l : LaneId} {j : Job} {x : Status} :
    Queued (q.map (writeSeq i seq)) l j x ↔ Queued q l j x := by
  constructor
  · rintro ⟨e, he, rfl, rfl, rfl⟩
    obtain ⟨d, hd, hde⟩ := List.mem_map.1 he
    cases d with
    | refused r => cases hde
    | lane d =>
      rw [writeSeq] at hde
      split at hde
      · cases hde; exact ⟨d, hd, rfl, rfl, rfl⟩
      · cases hde; exact ⟨e, hd, rfl, rfl, rfl⟩
  · rintro ⟨e, he, rfl, rfl, rfl⟩
    have mem := List.mem_map_of_mem (f := writeSeq i seq) he
    rw [writeSeq] at mem
    split at mem
    · exact ⟨_, mem, rfl, rfl, rfl⟩
    · exact ⟨e, mem, rfl, rfl, rfl⟩

theorem writeSeq_jobId (i : Nat) (seq : SeqNo) (d : Entry) : (writeSeq i seq d).jobId = d.jobId := by
  cases d with
  | refused e => rfl
  | lane e => rw [writeSeq]; split <;> rfl

theorem finishEntry_jobId (i : Nat) (o : LaneOutcome) (n : Nat) (d : Entry) :
    (finishEntry i o n d).jobId = d.jobId := by
  cases d with
  | refused e => rfl
  | lane e => rw [finishEntry]; split <;> rfl

theorem FramesHeld.writeSeq {o : FrameOut} {s : State} (h : FramesHeld o s) (i : Nat) (seq : SeqNo) :
    FramesHeld o { s with queue := s.queue.map (writeSeq i seq) } := by
  have ids : jobIds (s.queue.map (Machine.writeSeq i seq)) = jobIds s.queue := jobIds_map (writeSeq_jobId i seq)
  refine ⟨h.sending, ids ▸ h.unique, ids ▸ h.below, h.sentBelow, fun l => ?_, h.arrives, h.cleared⟩
  exact (h.lanes l).of_queued (fun _ => queued_map_writeSeq)
    (fun _ => exists_congr fun _ => exists_congr fun _ => queued_map_writeSeq)
    fun k hk => ids ▸ ((h.lanes l).sent k hk).2

/-! ## One lane changed -/

/-- A lane takes other positions, with the entries of its jobs and the intake. -/
theorem FramesHeld.setLane_with {o : FrameOut} {s : State} (h : FramesHeld o s) {l : LaneId} {x : Lane}
    {q : List Entry} {i : Intake} (ids : jobIds q = jobIds s.queue) (jobs : LaneMatches q o.frame l x.jobs)
    (arrives : Arrives i l x.stage) (cleared : x.Cleared)
    (others : ∀ m ≠ l, LaneMatches q o.frame m (s.lane m).jobs ∧ Arrives i m (s.lane m).stage) :
    FramesHeld o { s.setLane l x with queue := q, intake := i } := by
  have lane : ∀ m, ({ s.setLane l x with queue := q, intake := i } : State).lane m = if l = m then x else s.lane m :=
    fun m => by cases l <;> cases m <;> rfl
  refine ⟨(setLane_sending ..).trans h.sending, ids ▸ h.unique, fun k hk => ?_, fun m k hk => ?_, fun m => ?_,
    fun m => ?_, fun m => ?_⟩
  · rw [setLane_nextJob]; exact h.below k (ids ▸ hk)
  · rw [setLane_nextJob]; exact h.sentBelow m k hk
  all_goals rw [lane]; split
  · rename_i e; exact e ▸ jobs
  · rename_i e; exact (others m (Ne.symm e)).1
  · rename_i e; exact e ▸ arrives
  · rename_i e; exact (others m (Ne.symm e)).2
  · exact cleared
  · exact h.cleared m

/-- A lane takes other positions that match the queue as it is. -/
theorem FramesHeld.setLane {o : FrameOut} {s : State} (h : FramesHeld o s) {l : LaneId} {x : Lane}
    (jobs : LaneMatches s.queue o.frame l x.jobs) (arrives : Arrives s.intake l x.stage) (cleared : x.Cleared) :
    FramesHeld o (s.setLane l x) :=
  (h.setLane_with rfl jobs arrives cleared fun m _ => ⟨h.lanes m, h.arrives m⟩).of_same (setLane_queue ..)
    (fun m => by cases l <;> cases m <;> rfl) (setLane_intake ..) rfl rfl

/-- A lane of which WORK holds a frame is ONLINE (R106). -/
theorem Lane.Cleared.online {x : Lane} (h : x.Cleared) {f : WorkFrame} (hf : x.work = some f) : x.state ≠ .offline := by
  intro ho
  cases hf.symm.trans (h ho).2

/-- A phase of WORK goes on with the frame of the same job (R97). -/
theorem FramesHeld.setWork {o : FrameOut} {s : State} (h : FramesHeld o s) {l : LaneId} {f g : WorkFrame}
    (hf : (s.lane l).work = some f) (job : g.job = f.job) : FramesHeld o (setWork l g s) := by
  refine h.setLane ?_ (h.arrives l) fun ho => absurd ho ((h.cleared l).online hf)
  have jobs : ({ s.lane l with work := some g } : Lane).jobs = (s.lane l).jobs := by
    simp [Lane.jobs, hf, job]
  rw [jobs]
  exact h.lanes l

/-- An arrived frame in WORK, where it stood in STAGE (R96). -/
theorem LaneMatches.moved {q : List Entry} {o : Option (LaneId × Nat)} {l : LaneId} {p : LaneJobs} {j : Job}
    (h : LaneMatches q o l p) (stage : p.stage = some j) (work : p.work = none) :
    LaneMatches q o l ⟨none, some j, p.out⟩ := by
  refine ⟨fun i => ?_, fun _ _ hi => (nomatch hi), h.done, h.sent⟩
  rw [h.waiting, stage, work, or_comm]

/-- An arrived frame moves to WORK (R96). -/
theorem FramesHeld.moveToWork {o : FrameOut} {s : State} (h : FramesHeld o s) (l : LaneId) :
    FramesHeld o (moveToWork l s) := by
  unfold Machine.moveToWork
  split
  · rename_i f hf hw
    split
    · rename_i arrived
      refine h.setLane ((h.lanes l).moved (Lane.jobs_stage.2 ⟨f, hf, rfl⟩) ?_)
        ⟨fun j n hi => ?_, fun g hg => nomatch hg⟩ fun ho => ?_
      · rw [Lane.jobs, hw]; rfl
      · obtain ⟨g, hg, -, arriving, -⟩ := (h.arrives l).streaming j n hi
        cases hf.symm.trans hg
        cases arrived.symm.trans arriving
      · cases hf.symm.trans ((h.cleared l) ho).1
    · exact h
  · exact h

/-- The entries after a frame's move to OUT: its own is no more PENDING (R98, R115). -/
theorem waiting_map_finishEntry {q : List Entry} {i : Nat} {o : LaneOutcome} {n : Nat} {l : LaneId} {j : Job} :
    Waiting (q.map (finishEntry i o n)) l j ↔ Waiting q l j ∧ j.id ≠ i := by
  constructor
  · rintro ⟨e, he, rfl, rfl, hs⟩
    obtain ⟨d, hd, hde⟩ := List.mem_map.1 he
    cases d with
    | refused r => cases hde
    | lane d =>
      rw [finishEntry] at hde
      split at hde
      · cases hde; cases hs
      · rename_i hn
        cases hde
        exact ⟨⟨e, hd, rfl, rfl, hs⟩, fun hid => hn ⟨hid, hs⟩⟩
  · rintro ⟨⟨e, he, rfl, rfl, hs⟩, hid⟩
    have mem := List.mem_map_of_mem (f := finishEntry i o n) he
    rw [finishEntry, if_neg fun g => hid g.1] at mem
    exact ⟨e, mem, rfl, rfl, hs⟩

/-- The entries after a frame's move to OUT: its own is FINISHED (R98, R115). -/
theorem done_map_finishEntry {q : List Entry} {i : Nat} {o : LaneOutcome} {n : Nat} {l : LaneId} {j : Job} :
    Done (q.map (finishEntry i o n)) l j ↔ Done q l j ∨ Waiting q l j ∧ j.id = i := by
  constructor
  · rintro ⟨c, m, e, he, rfl, rfl, hs⟩
    obtain ⟨d, hd, hde⟩ := List.mem_map.1 he
    cases d with
    | refused r => cases hde
    | lane d =>
      rw [finishEntry] at hde
      split at hde
      · rename_i hp
        cases hde
        exact .inr ⟨⟨d, hd, rfl, rfl, hp.2⟩, hp.1⟩
      · cases hde
        exact .inl ⟨c, m, e, hd, rfl, rfl, hs⟩
  · rintro (⟨c, m, e, he, rfl, rfl, hs⟩ | ⟨⟨e, he, rfl, rfl, hs⟩, hid⟩)
    all_goals have mem := List.mem_map_of_mem (f := finishEntry i o n) he
    · rw [finishEntry, if_neg fun g => by rw [hs] at g; cases g.2] at mem
      exact ⟨c, m, e, mem, rfl, rfl, hs⟩
    · rw [finishEntry, if_pos ⟨hid, hs⟩] at mem
      exact ⟨o, n, _, mem, rfl, rfl, rfl⟩

/-- A DONE frame in OUT, where it stood in WORK, with its entry FINISHED (R98). -/
theorem LaneMatches.finished {q : List Entry} {o : Option (LaneId × Nat)} {l : LaneId} {p : LaneJobs} {j : Job}
    (h : LaneMatches q o l p) (work : p.work = some j) (out : p.out = none) (c : LaneOutcome) (n : Nat) :
    LaneMatches (q.map (finishEntry j.id c n)) o l ⟨p.stage, none, some j⟩ := by
  have unsent : ∀ i, o ≠ some (l, i) := fun i hi => by
    obtain ⟨⟨k, hk, -⟩, -⟩ := h.sent i hi
    cases out.symm.trans hk
  have in_work : ∀ i, p.work = some i ↔ i = j := fun i => by rw [work, Option.some.injEq, eq_comm]
  refine ⟨fun i => ?_, fun _ _ _ hi => (nomatch hi), fun i => ?_, fun i hi => absurd hi (unsent i)⟩
  · rw [waiting_map_finishEntry, h.waiting, in_work]
    constructor
    · rintro ⟨hi | rfl, hid⟩
      · exact .inl hi
      · exact absurd rfl hid
    · rintro (hi | hi)
      · exact ⟨.inl hi, h.apart i j hi work⟩
      · cases hi
  · rw [done_map_finishEntry, h.done, h.waiting, in_work]
    constructor
    · rintro (⟨hi, -⟩ | ⟨hi | rfl, hid⟩)
      · cases out.symm.trans hi
      · exact absurd hid (h.apart i j hi work)
      · exact ⟨rfl, unsent _⟩
    · rintro ⟨hi, -⟩
      cases hi
      exact .inr ⟨.inr rfl, rfl⟩

/-- A lane of which no frame is the finished one. -/
theorem LaneMatches.finished_elsewhere {q : List Entry} {o : Option (LaneId × Nat)} {l : LaneId} {p : LaneJobs}
    {i : Nat} (h : LaneMatches q o l p) (other : ∀ j, Waiting q l j → j.id ≠ i) (c : LaneOutcome) (n : Nat) :
    LaneMatches (q.map (finishEntry i c n)) o l p := by
  refine h.of_queued (fun j => ?_) (fun j => ?_) fun k hk => ?_
  · rw [waiting_map_finishEntry]
    exact ⟨And.left, fun g => ⟨g, other j g⟩⟩
  · rw [done_map_finishEntry]
    exact ⟨fun g => g.elim id fun g => absurd g.2 (other j g.1), .inl⟩
  · rw [jobIds_map (finishEntry_jobId i c n)]
    exact (h.sent k hk).2

/-- A DONE frame moves to OUT (R98). -/
theorem FramesHeld.moveToOut {o : FrameOut} {s : State} (h : FramesHeld o s) (l : LaneId) :
    FramesHeld o (moveToOut l s) := by
  unfold Machine.moveToOut
  split
  · rename_i f hf ho
    split
    · rename_i c _
      have work : (s.lane l).jobs.work = some f.job := Lane.jobs_work.2 ⟨f, hf, rfl⟩
      have out : (s.lane l).jobs.out = none := by rw [Lane.jobs, ho]; rfl
      have place := ((h.lanes l).waiting f.job).2 (.inr work)
      have moved := h.setLane_with (x := { s.lane l with work := none, out := some ⟨f.job, f.output⟩ })
        (q := s.queue.map (finishEntry f.job.id c (handedLength f.job c))) (jobIds_map (finishEntry_jobId _ _ _))
        ((h.lanes l).finished work out _ _) (h.arrives l) (fun g => absurd g ((h.cleared l).online hf)) fun m hm =>
          ⟨(h.lanes m).finished_elsewhere (fun j hj hid => hm (Queued.unique h.unique place hj hid.symm).1.symm) _ _,
            h.arrives m⟩
      exact moved.of_same rfl (fun m => by cases l <;> cases m <;> rfl) (setLane_intake ..) rfl rfl
    all_goals exact h
  · exact h

/-! ## The phases of WORK -/

theorem FramesHeld.fetchKey {o : FrameOut} {s : State} (h : FramesHeld o s) (l : LaneId) :
    FramesHeld o (fetchKey l s) := by
  unfold Machine.fetchKey
  split
  · rename_i f hf
    split
    · split
      · exact h.setWork hf rfl
      · exact h
    · exact h
  · exact h

theorem FramesHeld.headerPhase {o : FrameOut} {s : State} (h : FramesHeld o s) (l : LaneId) :
    FramesHeld o (headerPhase l s) := by
  unfold Machine.headerPhase
  split
  · rename_i f hf
    split
    · rename_i k _ _
      split
      · exact h.setWork hf rfl
      · have parsed := (h.setWork hf (g := parseHeader k f) rfl).writeSeq f.job.id (parsedSeq (receivedHeader f))
        rwa [show (Machine.setWork l (parseHeader k f) s).queue = s.queue from setLane_queue ..] at parsed
    · exact h
  · exact h

theorem FramesHeld.bodyPhase {o : FrameOut} {s : State} (h : FramesHeld o s) (l : LaneId) :
    FramesHeld o (bodyPhase l s) := by
  unfold Machine.bodyPhase
  split
  · rename_i f hf
    split
    · exact h.setWork hf rfl
    · exact h
  · exact h

theorem tagFrame_job (k : ContextKey) (n : Nonce) (f : WorkFrame) : (tagFrame k n f).job = f.job := by
  unfold tagFrame; split <;> rfl

theorem FramesHeld.tagPhase {o : FrameOut} {s : State} (h : FramesHeld o s) (l : LaneId) :
    FramesHeld o (tagPhase l s) := by
  unfold Machine.tagPhase
  split
  · rename_i f hf
    split
    · exact h.setWork hf (tagFrame_job _ _ f)
    · exact h
  · exact h

end Sys2Proof.Machine
end

section
/-! PROOFS. Jobs ended, and the runs of changes in which jobs are ended and nothing else happens to the frames. -/

namespace Sys2Proof.Machine
open Sys2Proof

/-! ## Jobs ended -/

theorem waiting_map_endEntry {q : List Entry} {ids : List Nat} {v : EndVerdict} {l : LaneId} {j : Job} :
    Waiting (q.map (endEntry ids v)) l j ↔ Waiting q l j ∧ j.id ∉ ids := by
  constructor
  · rintro ⟨e, he, rfl, rfl, hs⟩
    obtain ⟨hq, hid⟩ := (lane_mem_map_endEntry fun x hx => by cases hs.symm.trans hx).1 he
    exact ⟨⟨e, hq, rfl, rfl, hs⟩, hid⟩
  · rintro ⟨⟨e, he, rfl, rfl, hs⟩, hid⟩
    exact ⟨e, (lane_mem_map_endEntry fun x hx => by cases hs.symm.trans hx).2 ⟨he, hid⟩, rfl, rfl, hs⟩

theorem done_map_endEntry {q : List Entry} {ids : List Nat} {v : EndVerdict} {l : LaneId} {j : Job} :
    Done (q.map (endEntry ids v)) l j ↔ Done q l j ∧ j.id ∉ ids := by
  constructor
  · rintro ⟨o, n, e, he, rfl, rfl, hs⟩
    obtain ⟨hq, hid⟩ := (lane_mem_map_endEntry fun x hx => by cases hs.symm.trans hx).1 he
    exact ⟨⟨o, n, e, hq, rfl, rfl, hs⟩, hid⟩
  · rintro ⟨⟨o, n, e, he, rfl, rfl, hs⟩, hid⟩
    exact ⟨o, n, e, (lane_mem_map_endEntry fun x hx => by cases hs.symm.trans hx).2 ⟨he, hid⟩, rfl, rfl, hs⟩

/-- The jobs whose frames are left in a position (R104). -/
theorem filter_job_eq_some {α : Type} {job : α → Job} {ids : List Nat} {x : Option α} {j : Job} :
    (x.filter fun a => !ids.contains (job a).id).map job = some j ↔ x.map job = some j ∧ j.id ∉ ids := by
  simp only [Option.map_eq_some_iff, Option.filter_eq_some_iff]
  constructor
  · rintro ⟨f, ⟨hf, hid⟩, rfl⟩
    exact ⟨⟨f, hf, rfl⟩, by simpa using hid⟩
  · rintro ⟨⟨f, hf, rfl⟩, hid⟩
    exact ⟨f, ⟨hf, by simpa using hid⟩, rfl⟩

theorem LaneMatches.endJobs {q : List Entry} {o : Option (LaneId × Nat)} {l : LaneId} {x : Lane}
    (h : LaneMatches q o l x.jobs) {ids : List Nat} (listed : ∀ i ∈ ids, i ∈ jobIds q) (v : EndVerdict) :
    LaneMatches (q.map (endEntry ids v)) o l (x.dropJobs ids).jobs := by
  have stage : ∀ j, (x.dropJobs ids).jobs.stage = some j ↔ x.jobs.stage = some j ∧ j.id ∉ ids := fun _ =>
    filter_job_eq_some
  have work : ∀ j, (x.dropJobs ids).jobs.work = some j ↔ x.jobs.work = some j ∧ j.id ∉ ids := fun _ =>
    filter_job_eq_some
  have out : ∀ j, (x.dropJobs ids).jobs.out = some j ↔ x.jobs.out = some j ∧ j.id ∉ ids := fun _ =>
    filter_job_eq_some
  refine ⟨fun j => ?_, fun i j hi hj => ?_, fun j => ?_, fun i hi => ?_⟩
  · rw [waiting_map_endEntry, h.waiting, stage, work, or_and_right]
  · exact h.apart i j ((stage i).1 hi).1 ((work j).1 hj).1
  · rw [done_map_endEntry, h.done, out, and_right_comm]
  · obtain ⟨⟨j, hj, rfl⟩, fresh⟩ := h.sent i hi
    rw [jobIds_map (endEntry_jobId ids v)]
    exact ⟨⟨j, (out j).2 ⟨hj, fun hid => fresh (listed _ hid)⟩, rfl⟩, fresh⟩

theorem Arrives.endJobs {i : Intake} {l : LaneId} {x : Lane} (h : Arrives i l x.stage) (ids : List Nat) :
    Arrives (dropStreaming ids i) l (x.dropJobs ids).stage := by
  have stage : ∀ f, (x.dropJobs ids).stage = some f ↔ x.stage = some f ∧ f.job.id ∉ ids := fun f => by
    simp [Lane.dropJobs, Option.filter_eq_some_iff]
  refine ⟨fun j n hi => ?_, fun f hf ha => ?_⟩
  · obtain ⟨hi, hid⟩ := dropStreaming_eq_streaming.1 hi
    obtain ⟨f, hf, rfl, arriving⟩ := h.streaming j n hi
    exact ⟨f, (stage f).2 ⟨hf, hid⟩, rfl, arriving⟩
  · obtain ⟨hf, hid⟩ := (stage f).1 hf
    obtain ⟨n, hi⟩ := h.arriving f hf ha
    exact ⟨n, dropStreaming_eq_streaming.2 ⟨hi, hid⟩⟩

/-- Jobs of unreleased entries are ended (R90, R104). -/
theorem FramesHeld.endJobs {o : FrameOut} {s : State} (h : FramesHeld o s) {ids : List Nat}
    (listed : ∀ i ∈ ids, i ∈ jobIds s.queue) (v : EndVerdict) : FramesHeld o (endJobs ids v s) := by
  have same : jobIds (s.queue.map (endEntry ids v)) = jobIds s.queue := jobIds_map (endEntry_jobId ids v)
  refine ⟨h.sending, same ▸ h.unique, same ▸ h.below, h.sentBelow, fun l => ?_, fun l => ?_, fun l => ?_⟩
  all_goals rw [lane_endJobs]
  · exact (h.lanes l).endJobs listed v
  · exact (h.arrives l).endJobs ids
  · intro ho
    obtain ⟨stage, work⟩ := h.cleared l ho
    simp [Lane.dropJobs, stage, work]

/-! ## Runs -/

/-- A run of changes in which jobs of unreleased entries are ended, and the frames are left otherwise. -/
inductive FramesRun : State → State → Prop
  | same {s t : State} (h : t.frames = s.frames) : FramesRun s t
  | ended {s : State} (ids : List Nat) (v : EndVerdict) (h : ∀ i ∈ ids, i ∈ jobIds s.queue) :
    FramesRun s (endJobs ids v s)
  | trans {s t u : State} (r : FramesRun s t) (g : FramesRun t u) : FramesRun s u

theorem FramesRun.refl (s : State) : FramesRun s s := .same rfl

theorem FramesRun.then_same {s t u : State} (r : FramesRun s t) (h : u.frames = t.frames) : FramesRun s u :=
  r.trans (.same h)

theorem FramesRun.held {s t : State} (r : FramesRun s t) {o : FrameOut} (h : FramesHeld o s) :
    FramesHeld o t := by
  induction r with
  | same e => exact h.of_frames e
  | ended ids v listed => exact h.endJobs listed v
  | trans _ _ ih ih' => exact ih' (ih h)

theorem FramesRun.jobIds {s t : State} (r : FramesRun s t) : jobIds t.queue = jobIds s.queue := by
  induction r with
  | same e => exact congrArg (Machine.jobIds ·.queue) e
  | ended ids v => exact jobIds_map (endEntry_jobId ids v)
  | trans _ _ ih ih' => exact ih'.trans ih

theorem FramesRun.framesMatch {s t : State} (r : FramesRun s t) (h : FramesMatch s) : FramesMatch t :=
  h.keep (r.held h.held)

/-- The frames are left: what follows of them does. -/
theorem FramesMatch.of_frames {s t : State} (h : FramesMatch s) (e : t.frames = s.frames) : FramesMatch t :=
  (FramesRun.same e).framesMatch h

theorem lane_of_frames {s t : State} (e : t.frames = s.frames) (l : LaneId) : t.lane l = s.lane l := by
  cases l
  · exact congrArg FrameBlocks.laneA e
  · exact congrArg FrameBlocks.laneB e

theorem intake_of_frames {s t : State} (e : t.frames = s.frames) : t.intake = s.intake :=
  congrArg FrameBlocks.intake e

/-- A run takes nothing ONLINE or OFFLINE and puts no frame in STAGE. -/
theorem FramesRun.qualifies {s t : State} (r : FramesRun s t) (l : LaneId) (h : (s.lane l).qualifies = true) :
    (t.lane l).qualifies = true := by
  induction r with
  | same e => rwa [lane_of_frames e]
  | ended ids v =>
    rw [Lane.qualifies_iff] at h ⊢
    obtain ⟨online, empty⟩ := h
    rw [lane_endJobs]
    exact ⟨online, by rw [Lane.dropJobs, empty]; rfl⟩
  | trans _ _ ih ih' => exact ih' (ih h)

/-- The intake streams no frame. -/
def Intake.Rests (i : Intake) : Prop := ∀ j l n, i ≠ .streaming j l n

theorem FramesRun.rests {s t : State} (r : FramesRun s t) (h : s.intake.Rests) : t.intake.Rests := by
  induction r with
  | same e => rwa [intake_of_frames e]
  | ended ids v => exact fun j l n hi => h j l n (dropStreaming_eq_streaming.1 hi).1
  | trans _ _ ih ih' => exact ih' (ih h)

/-! ## The shared operations as runs -/

theorem openJobs_listed (k : SlotNo) (s : State) : ∀ i ∈ openJobs k s, i ∈ jobIds s.queue := by
  intro i hi
  obtain ⟨d, hd, ho⟩ := List.mem_filterMap.1 hi
  refine List.mem_filterMap.2 ⟨d, hd, ?_⟩
  cases d with
  | refused e => cases ho
  | lane e =>
    rw [openJob] at ho
    split at ho
    · cases ho
    all_goals
      split at ho
      · exact ho
      · cases ho

theorem raiseOn_frames (r : Raise) (k : SlotNo) (s : State) : (raiseOn r k s).frames = s.frames := by
  rw [raiseOn_frame]; rfl

theorem applyEnding_frames (e : Ending) (k : SlotNo) (s : State) : (applyEnding e k s).frames = s.frames := rfl

theorem damage_frames (ds : List Damage) (s : State) : (damage ds s).frames = s.frames := by
  rw [damage_frame]; rfl

theorem retireSlot_frames (k : SlotNo) (s : State) : (retireSlot k s).frames = s.frames := by
  rw [retireSlot_frame]; rfl

theorem drainEnd_frames (r : Reason) (p : CondPhase) (q : Option SeqNo) (k : SlotNo) (s : State) :
    (drainEnd r p q k s).frames = s.frames := by
  rw [drainEnd_frame]; rfl

theorem swapRoles_frames (t : Tag) (k : SlotNo) (s : State) : (swapRoles t k s).frames = s.frames := by
  rw [swapRoles_frame]; rfl

theorem post_frames (c : CommandCopy) (r : ResultCode) (f : List Byte) (s : State) :
    (post c r f s).frames = s.frames := rfl

theorem FramesRun.quarantine (p : CondPhase) (q : Option SeqNo) (g : CheckGroup) (k : SlotNo) (s : State) :
    FramesRun s (quarantine p q g k s) := by
  have ended : FramesRun s (endJobs (openJobs k s) .aborted (s.updateSlot k quarantinedContext)) :=
    FramesRun.trans (t := s.updateSlot k quarantinedContext) (.same rfl) (.ended _ _ (openJobs_listed k s))
  exact (ended.then_same (raiseOn_frames ..)).then_same (applyEnding_frames ..)

theorem FramesRun.recordCheck (p : CondPhase) (q : Option SeqNo) (k : SlotNo) (s : State) :
    FramesRun s (recordCheck p q k s) := by
  rcases recordCheck_cases p q k s with h | ⟨_, g, -, -, h⟩ <;> rw [h]
  · exact .refl s
  · exact .quarantine p q g k s

theorem FramesRun.recordCheckSome (p : CondPhase) (q : Option SeqNo) (k : Option SlotNo) (s : State) :
    FramesRun s (recordCheckSome p q k s) := by
  cases k with
  | none => exact .refl s
  | some k => exact .recordCheck p q k s

theorem FramesRun.rollOver (p : CondPhase) (q : Option SeqNo) (k : SlotNo) (s : State) :
    FramesRun s (rollOver p q k s) := by
  unfold Machine.rollOver
  split
  · rename_i c _
    split
    · have reads := (FramesRun.recordCheck p q k s).trans (.recordCheckSome p q (partnerOf s c.tag k) _)
      dsimp only
      split
      · exact reads.then_same (swapRoles_frames ..)
      · exact reads
    · exact .refl s
  · exact .refl s

end Sys2Proof.Machine
end

section
/-! PROOFS. Frame In and the dispatch keep frames, entries and intake together. -/

namespace Sys2Proof.Machine
open Sys2Proof

/-! ## The intake -/

theorem rests_awaitJob : Intake.awaitJob.Rests := fun _ _ _ => Intake.noConfusion
theorem rests_discarding : Intake.discarding.Rests := fun _ _ _ => Intake.noConfusion
theorem rests_jobWord (w : Word) : (Intake.jobWord w).Rests := fun _ _ _ => Intake.noConfusion

theorem lane_of_intake (s : State) (i : Intake) (l : LaneId) : ({ s with intake := i } : State).lane l = s.lane l := by
  cases l <;> rfl

/-- Another intake that stands with the frames in STAGE. -/
theorem FramesHeld.setIntake {o : FrameOut} {s : State} (h : FramesHeld o s) {i : Intake}
    (arrives : ∀ l, Arrives i l (s.lane l).stage) : FramesHeld o { s with intake := i } := by
  refine ⟨h.sending, h.unique, h.below, h.sentBelow, fun l => ?_, fun l => ?_, fun l => ?_⟩
  all_goals rw [lane_of_intake]
  · exact h.lanes l
  · exact arrives l
  · exact h.cleared l

/-- From one state that streams no frame to another. -/
theorem Arrives.of_rests {i k : Intake} {l : LaneId} {f : Option StageFrame} (h : Arrives i l f) (hi : i.Rests)
    (hk : k.Rests) : Arrives k l f :=
  ⟨fun j n e => absurd e (hk j l n), fun g hg ha => have ⟨n, e⟩ := h.arriving g hg ha; absurd e (hi _ l n)⟩

theorem FramesHeld.setIntake_rests {o : FrameOut} {s : State} (h : FramesHeld o s) (hs : s.intake.Rests)
    {i : Intake} (hi : i.Rests) : FramesHeld o { s with intake := i } :=
  h.setIntake fun l => (h.arrives l).of_rests hs hi

theorem FramesHeld.wordInAwait {o : FrameOut} {s : State} (h : FramesHeld o s) (hs : s.intake.Rests)
    (w : FrameWord) : FramesHeld o (wordInAwait w s) := by
  refine h.setIntake_rests hs ?_
  split
  · exact rests_jobWord _
  · exact rests_awaitJob

/-- The job being streamed has an entry (R86, R95). -/
theorem FramesHeld.streaming_listed {o : FrameOut} {s : State} (h : FramesHeld o s) {j : Job} {l : LaneId}
    {n : Nat} (hi : s.intake = .streaming j l n) : j.id ∈ jobIds s.queue := by
  obtain ⟨f, hf, rfl, -⟩ := (h.arrives l).streaming j n hi
  exact (((h.lanes l).waiting f.job).2 (.inl (Lane.jobs_stage.2 ⟨f, hf, rfl⟩))).mem_jobIds

/-- The job being streamed is ended FRAMING (R87, R88). -/
theorem FramesHeld.endFraming {o : FrameOut} {s : State} (h : FramesHeld o s) {j : Job} {l : LaneId}
    {n : Nat} (hs : s.intake = .streaming j l n) {i : Intake} (hi : i.Rests) : FramesHeld o (endFraming j i s) := by
  have ended := h.endJobs (ids := [j.id]) (by simpa using h.streaming_listed hs) .framing
  refine ended.setIntake_rests ?_ hi
  have drops : dropStreaming [j.id] s.intake = .discarding := by simp [hs, dropStreaming]
  show (dropStreaming [j.id] s.intake).Rests
  rw [drops]
  exact rests_discarding

theorem frameBytes_length (w : FrameWord) : (frameBytes w).length = frameByteCount w := by
  have four : frameByteCount w ≤ 4 := by
    unfold frameByteCount
    split
    · split
      · exact Nat.le_refl 4
      · exact Nat.le_of_lt w.count.isLt
    · exact Nat.le_refl 4
  rw [frameBytes, wordBytes, List.length_take, bytesOf_length]
  exact Nat.min_eq_left four

/-- A word's bytes go into STAGE, the intake still streaming or, with the frame arrived, at rest (R86, R96). -/
theorem FramesHeld.writeStage {o : FrameOut} {s : State} (h : FramesHeld o s) {j : Job} {l : LaneId}
    {n : Nat} (hs : s.intake = .streaming j l n) (bs : List Byte) {arrived : Bool} {i : Intake}
    (hi : arrived = true ∧ i.Rests ∨ arrived = false ∧ i = .streaming j l (n + bs.length)) :
    FramesHeld o { writeStage l bs arrived s with intake := i } := by
  obtain ⟨f, hf, rfl, -, rfl⟩ := (h.arrives l).streaming j n hs
  rw [writeStage_of_some hf]
  set g : StageFrame := { f with bytes := f.bytes ++ bs, arrived := arrived } with hg
  have jobs : ({ s.lane l with stage := some g } : Lane).jobs = (s.lane l).jobs := by simp [Lane.jobs, hf, hg]
  have own : Arrives i l (some g) := by
    rcases hi with ⟨rfl, hi⟩ | ⟨rfl, rfl⟩
    · exact ⟨fun k m e => absurd e (hi k l m), fun k e ha => by cases e; cases ha⟩
    · refine ⟨fun k m e => ?_, fun k e _ => ?_⟩
      · obtain ⟨rfl, -, rfl⟩ := Intake.streaming.inj e
        exact ⟨g, rfl, rfl, rfl, List.length_append⟩
      · cases e; exact ⟨_, rfl⟩
  have others : ∀ m ≠ l, Arrives i m (s.lane m).stage := by
    intro m hm
    refine ⟨fun k c e => ?_, fun k e ha => ?_⟩
    · rcases hi with ⟨-, hi⟩ | ⟨-, rfl⟩
      · exact absurd e (hi k m c)
      · exact absurd (Intake.streaming.inj e).2.1.symm hm
    · obtain ⟨c, hc⟩ := (h.arrives m).arriving k e ha
      exact absurd (Intake.streaming.inj (hs.symm.trans hc)).2.1.symm hm
  have written := h.setLane_with (x := { s.lane l with stage := some g }) rfl (jobs ▸ h.lanes l) own
    (fun ho => by cases hf.symm.trans ((h.cleared l) ho).1) fun m hm => ⟨h.lanes m, others m hm⟩
  exact written.of_same (setLane_queue ..) (fun m => by cases l <;> cases m <;> rfl) rfl rfl rfl

/-- A word of the frame being streamed (R86 to R88). -/
theorem FramesHeld.streamWord {o : FrameOut} {s : State} (h : FramesHeld o s) {j : Job} {l : LaneId}
    {n : Nat} (hs : s.intake = .streaming j l n) (w : FrameWord) : FramesHeld o (streamWord j l n w s) := by
  unfold Machine.streamWord
  dsimp only
  split
  · refine h.endFraming hs ?_
    split
    · exact rests_awaitJob
    · exact rests_discarding
  · split
    · split
      · exact h.writeStage hs _ (.inl ⟨rfl, rests_awaitJob⟩)
      · exact h.endFraming hs rests_awaitJob
    · exact h.writeStage hs _ (.inr ⟨rfl, by rw [frameBytes_length]⟩)

/-! ## Refusal and dispatch -/

theorem queued_append_refused {q : List Entry} {e : RefusedEntry} {l : LaneId} {j : Job} {x : Status} :
    Queued (q ++ [.refused e]) l j x ↔ Queued q l j x := by
  simp [Queued]

/-- A REFUSED entry at the tail, the frame's bytes to be dropped (R83). -/
theorem FramesHeld.refuse {o : FrameOut} {s : State} (h : FramesHeld o s) (hs : s.intake.Rests)
    (e : RefusedEntry) {i : Intake} (hi : i.Rests) :
    FramesHeld o { s with queue := s.queue ++ [.refused e], intake := i } := by
  have ids : jobIds (s.queue ++ [.refused e]) = jobIds s.queue := by rw [jobIds_append]; exact List.append_nil _
  have queued : FramesHeld o { s with queue := s.queue ++ [.refused e] } := by
    refine ⟨h.sending, ids ▸ h.unique, ids ▸ h.below, h.sentBelow, fun l => ?_, h.arrives, h.cleared⟩
    exact (h.lanes l).of_queued (fun _ => queued_append_refused)
      (fun _ => exists_congr fun _ => exists_congr fun _ => queued_append_refused)
      fun k hk => ids ▸ ((h.lanes l).sent k hk).2
  exact queued.setIntake_rests hs hi

theorem FramesHeld.refuseFrame {o : FrameOut} {s : State} (h : FramesHeld o s) (hs : s.intake.Rests)
    (w : FrameWord) (j : JobHeader) (v : Verdict) (k : Option SlotNo) : FramesHeld o (refuseFrame w j v k s) := by
  have counted : (countRefused k s).frames = s.frames := by cases k <;> rfl
  refine (h.of_frames counted).refuse ?_ _ ?_
  · rwa [intake_of_frames counted]
  · unfold intakeAfterRefusal
    split
    · exact rests_awaitJob
    · exact rests_discarding

theorem queued_append_lane {q : List Entry} {e : LaneEntry} {l : LaneId} {j : Job} {x : Status} :
    Queued (q ++ [.lane e]) l j x ↔ Queued q l j x ∨ e.job = j ∧ e.lane = l ∧ e.status = x := by
  simp [Queued, or_and_right, exists_or]

/-- A frame in the empty STAGE of an ONLINE lane, its entry at the tail, the intake streaming it (R84, R85, R96). -/
theorem FramesHeld.placeJob {o : FrameOut} {s : State} (h : FramesHeld o s) (hs : s.intake.Rests)
    {j : Job} (hj : j.id = s.nextJob) {l : LaneId} (hl : (s.lane l).qualifies = true) :
    FramesHeld o (placeJob j l s) := by
  obtain ⟨online, empty⟩ := (s.lane l).qualifies_iff.1 hl
  set e : LaneEntry := { job := j, lane := l, seq := j.reserved, parsed := false, status := .pending } with he
  have ids : jobIds (s.queue ++ [.lane e]) = jobIds s.queue ++ [s.nextJob] := by rw [jobIds_append, ← hj]; rfl
  have fresh : s.nextJob ∉ jobIds s.queue := fun hi => Nat.lt_irrefl _ (h.below _ hi)
  have waiting : ∀ m k, Waiting (s.queue ++ [.lane e]) m k ↔ Waiting s.queue m k ∨ j = k ∧ l = m := fun m k =>
    queued_append_lane.trans (or_congr_right (and_congr_right fun _ => and_iff_left rfl))
  have done : ∀ m k, Done (s.queue ++ [.lane e]) m k ↔ Done s.queue m k := fun m k =>
    exists_congr fun _ => exists_congr fun _ =>
      queued_append_lane.trans (or_iff_left fun g => Status.noConfusion g.2.2)
  have sent : ∀ m i, o.frame = some (m, i) → i ∉ jobIds (s.queue ++ [.lane e]) := by
    intro m i hi
    have low := h.sentBelow m i hi
    rw [ids, List.mem_append, List.mem_singleton]
    rintro (g | g)
    · exact ((h.lanes m).sent i hi).2 g
    · omega
  have lane : ∀ m, (Machine.placeJob j l s).lane m =
      if l = m then { s.lane l with stage := some ⟨j, [], false⟩ } else s.lane m := by
    intro m
    cases m <;> cases l <;> rfl
  refine ⟨(setLane_sending ..).trans h.sending, ?_, fun i hi => ?_, fun m i hi => ?_, fun m => ?_, fun m => ?_,
    fun m => ?_⟩
  · show (jobIds (s.queue ++ [.lane e])).Nodup
    rw [ids]
    exact List.nodup_append.2 ⟨h.unique, List.nodup_singleton _, fun a ha b hb g => by
      rw [List.mem_singleton] at hb; exact fresh (hb ▸ g ▸ ha)⟩
  · have hi : i ∈ jobIds (s.queue ++ [.lane e]) := hi
    rw [ids, List.mem_append, List.mem_singleton] at hi
    rcases hi with hi | rfl
    · exact Nat.lt_succ_of_lt (h.below i hi)
    · exact Nat.lt_succ_self _
  · exact Nat.lt_succ_of_lt (h.sentBelow m i hi)
  all_goals rw [lane]
  · show LaneMatches (s.queue ++ [.lane e]) o.frame m _
    split
    · rename_i g
      subst g
      have old := h.lanes l
      refine ⟨fun k => ?_, fun i k hi hk hid => ?_, fun k => (done l k).trans (old.done k),
        fun i hi => ⟨(old.sent i hi).1, sent l i hi⟩⟩
      · rw [waiting, old.waiting]
        simp [Lane.jobs, empty, or_comm]
      · cases hi
        have low := h.below _ ((old.waiting k).2 (.inr hk)).mem_jobIds
        rw [← hid, hj] at low
        exact Nat.lt_irrefl _ low
    · rename_i g
      exact (h.lanes m).of_queued (fun k => (waiting m k).trans (or_iff_left fun e => g e.2)) (done m) (sent m)
  · show Arrives (.streaming j l 0) m _
    split
    · rename_i g
      subst g
      exact ⟨fun k n e => by cases e; exact ⟨_, rfl, rfl, rfl, rfl⟩, fun k e _ => by cases e; exact ⟨0, rfl⟩⟩
    · rename_i g
      refine ⟨fun k n e => by cases e; exact absurd rfl g, fun k e ha => ?_⟩
      obtain ⟨n, hn⟩ := (h.arrives m).arriving k e ha
      exact absurd hn (hs _ _ _)
  · split
    · exact fun ho => by cases online.symm.trans ho
    · exact h.cleared m

theorem FramesRun.exhausted (first : Bool) (k : SlotNo) (s : State) : FramesRun s (exhausted first k s).1 := by
  unfold Machine.exhausted
  split
  · exact .same (raiseOn_frames ..)
  · exact .refl s

theorem FramesRun.lastSpentTest (bytes : Nat) (k : SlotNo) (s : State) : FramesRun s (lastSpentTest bytes k s).1 := by
  have mark : FramesRun s (markSpent k s) := .same rfl
  unfold Machine.lastSpentTest
  split
  · exact mark.trans (.exhausted _ _ _)
  · exact .refl s

theorem FramesRun.afterLifeRoll (h : JobHeader) (bytes : Nat) (p : SlotNo) (s : State) :
    FramesRun s (afterLifeRoll h bytes p s).1 := by
  unfold Machine.afterLifeRoll
  dsimp only
  split
  · exact .same (raiseOn_frames ..)
  · exact (FramesRun.same (raiseOn_frames ..)).trans (.lastSpentTest _ _ _)

theorem FramesRun.spentSlot (atRoll : List Damage) (h : JobHeader) (bytes : Nat) (k : SlotNo) (s : State) :
    FramesRun s (spentSlot atRoll h bytes k s).1 := by
  have mark : FramesRun s (markSpent k s) := .same rfl
  unfold Machine.spentSlot
  dsimp only
  split
  · exact mark.trans (.exhausted _ _ _)
  · rename_i p _
    have roll : FramesRun s (Machine.rollOver .dispatch none p (damage atRoll (markSpent k s))) :=
      (mark.then_same (damage_frames ..)).trans (.rollOver ..)
    split
    · exact roll.trans (.afterLifeRoll ..)
    · split
      · exact roll
      · exact roll.trans (.exhausted _ _ _)

/-- Checks 4 to 8 end jobs at most, where a record check fails (R79). -/
theorem FramesRun.checksFromLookup (atRoll : List Damage) (h : JobHeader) (bytes : Nat) (s : State) :
    FramesRun s (checksFromLookup atRoll h bytes s).1 := by
  unfold Machine.checksFromLookup
  split
  · exact .refl s
  · rename_i k _
    have check := FramesRun.recordCheck .dispatch none k s
    unfold checksUnder
    split
    · exact check
    · split
      · exact check
      · split
        · exact check.trans (.spentSlot ..)
        · exact check

/-- Where a lane may be chosen, the chosen lane may (R85). -/
theorem chooseLane_qualifies {s : State} {l : LaneId} (h : (s.lane l).qualifies = true) :
    (s.lane (chooseLane s)).qualifies = true := by
  unfold chooseLane
  by_cases ha : s.laneA.qualifies = true
  · by_cases hb : s.laneB.qualifies = true
    · rw [ha, hb]
      cases s.lastLane
      · exact hb
      · exact ha
    · rw [ha, Bool.eq_false_iff.2 hb]
      exact ha
  · rw [Bool.eq_false_iff.2 ha]
    cases l
    · exact absurd h ha
    · exact h

theorem reserve_frames (dir : Direction) (bytes : Nat) (k : SlotNo) (s : State) :
    (reserve dir bytes k s).frames = s.frames := by
  cases dir with
  | toAdmit => rfl
  | toProtect =>
    unfold reserve testLifeLow
    dsimp only
    split
    · rw [raiseOn_frames]; rfl
    · rfl

theorem nextJob_of_frames {s t : State} (e : t.frames = s.frames) : t.nextJob = s.nextJob :=
  congrArg FrameBlocks.nextJob e

/-- A frame is dispatched to the lane the arbiter chooses, or ended at once if it has no bytes (R84, R85, R87). -/
theorem FramesHeld.dispatchToLane {o : FrameOut} {s : State} (h : FramesHeld o s) (hs : s.intake.Rests)
    {l : LaneId} (hl : (s.lane l).qualifies = true) (w : FrameWord) {j : Job} (hj : j.id = s.nextJob) (bytes : Nat) :
    FramesHeld o (dispatchToLane w j bytes s) := by
  set u := countInFlight j.slot j.recipe (reserve j.dir bytes j.slot s) with hu
  have counted : u.frames = s.frames := Eq.trans rfl (reserve_frames j.dir bytes j.slot s)
  have placed : FramesHeld o (Machine.placeJob j (chooseLane s) u) := by
    refine (h.of_frames counted).placeJob ?_ ?_ ?_
    · rwa [intake_of_frames counted]
    · rwa [nextJob_of_frames counted]
    · rw [lane_of_frames counted]; exact chooseLane_qualifies hl
  unfold Machine.dispatchToLane
  dsimp only
  split
  · exact placed.endFraming rfl rests_awaitJob
  · exact placed

/-- The taking of a Job Header (R72, R76 to R79). -/
theorem FramesHeld.takeJobHeader {o : FrameOut} {s : State} (h : FramesHeld o s) (hs : s.intake.Rests)
    (ha : accepting s = true) (atRoll : List Damage) (w0 : Word) (w : FrameWord) :
    FramesHeld o (takeJobHeader atRoll w0 w s) := by
  unfold Machine.takeJobHeader
  dsimp only
  split
  · exact h.refuseFrame hs ..
  · rename_i online
    split
    · exact h.refuseFrame hs ..
    · split
      · exact h.refuseFrame hs ..
      · rename_i layout _
        have run := FramesRun.checksFromLookup atRoll (jobHeaderOf w0 w.data) (metered layout) s
        unfold settleDispatch
        split
        · exact (run.held h).refuseFrame (run.rests hs) ..
        · obtain ⟨l, hl⟩ := ((accepting_iff s).1 ha).2.resolve_right fun hn =>
            online (by rw [(anyOnline_eq_false_iff s).2 hn]; rfl)
          exact (run.held h).dispatchToLane (run.rests hs) (run.qualifies l hl) w rfl _

/-- A word presented on Frame In (R73 to R89). -/
theorem FramesHeld.frameInWord {o : FrameOut} {s : State} (h : FramesHeld o s) (atRoll : List Damage)
    (w : FrameWord) : FramesHeld o (frameInWord atRoll w s) := by
  unfold Machine.frameInWord
  split
  · rename_i hi
    split
    · exact h.wordInAwait (hi ▸ rests_awaitJob) w
    · exact h
  · rename_i w0 hi
    have rests : s.intake.Rests := hi ▸ rests_jobWord w0
    split
    · rename_i ha
      unfold wordInJobWord
      split
      · exact h.wordInAwait rests w
      · exact h.takeJobHeader rests ha atRoll w0 w
    · exact h
  · rename_i j l n hi
    unfold wordInStreaming
    split
    · exact (h.endFraming hi rests_awaitJob).wordInAwait rests_awaitJob w
    · exact h.streamWord hi w
  · rename_i hi
    have rests : s.intake.Rests := hi ▸ rests_discarding
    unfold wordInDiscarding
    split
    · exact h.wordInAwait rests w
    · refine h.setIntake_rests rests ?_
      split
      · exact rests_awaitJob
      · exact rests_discarding

end Sys2Proof.Machine
end

section
/-! PROOFS. Lane faults, releases, Frame Out and SOFT_RESET keep frames, entries and intake together. -/

namespace Sys2Proof.Machine
open Sys2Proof

/-! ## Lane faults and the lane commands -/

/-- The jobs in STAGE and WORK of a lane have entries (R95). -/
theorem FramesHeld.unfinished_listed {o : FrameOut} {s : State} (h : FramesHeld o s) (l : LaneId) :
    ∀ i ∈ (s.lane l).unfinishedJobs, i ∈ jobIds s.queue := by
  intro i hi
  have placed : ∃ j, ((s.lane l).jobs.stage = some j ∨ (s.lane l).jobs.work = some j) ∧ j.id = i := by
    rcases List.mem_append.1 hi with hi | hi <;>
      obtain ⟨f, hf, rfl⟩ := Option.map_eq_some_iff.1 (Option.mem_toList.1 hi)
    · exact ⟨f.job, .inl (Lane.jobs_stage.2 ⟨f, hf, rfl⟩), rfl⟩
    · exact ⟨f.job, .inr (Lane.jobs_work.2 ⟨f, hf, rfl⟩), rfl⟩
  obtain ⟨j, hj, rfl⟩ := placed
  exact (((h.lanes l).waiting j).2 hj).mem_jobIds

/-- With the jobs in its STAGE and WORK ended, a lane holds nothing there (R104). -/
theorem Lane.dropJobs_unfinished (x : Lane) :
    (x.dropJobs x.unfinishedJobs).stage = none ∧ (x.dropJobs x.unfinishedJobs).work = none := by
  cases hs : x.stage <;> cases hw : x.work <;> simp [Lane.dropJobs, Lane.unfinishedJobs, hs, hw, Option.filter]

/-- The state of a lane that holds nothing in STAGE and WORK changes. -/
theorem FramesHeld.setLaneState {o : FrameOut} {s : State} (h : FramesHeld o s) {l : LaneId}
    (empty : (s.lane l).stage = none ∧ (s.lane l).work = none) (x : LaneState) :
    FramesHeld o (s.setLane l { s.lane l with state := x }) :=
  h.setLane (h.lanes l) (h.arrives l) fun _ => empty

theorem fullReport_frames (l : LaneId) (p : CondPhase) (j : Job) (s : State) :
    (fullReport l p j s).frames = s.frames := (applyEnding_frames ..).trans (raiseOn_frames ..)

theorem ancillaryReport_frames (l : LaneId) (j : Job) (f : Option StageFrame) (s : State) :
    (ancillaryReport l j f s).frames = s.frames := by
  unfold ancillaryReport
  split
  · split
    · rfl
    · exact (applyEnding_frames ..).trans (raiseOn_frames ..)
  · rfl

/-- A lane fault ends the jobs in STAGE and WORK and takes the lane OFFLINE (R107). -/
theorem FramesHeld.faultLane {o : FrameOut} {s : State} (h : FramesHeld o s) (l : LaneId) :
    FramesHeld o (faultLane l s) := by
  unfold Machine.faultLane
  split
  · split
    · have ended := h.endJobs (h.unfinished_listed l) .faulted
      have empty := (s.lane l).dropJobs_unfinished
      rw [← lane_endJobs _ .faulted] at empty
      have offline : FramesHeld o (laneOffline l (Machine.endJobs (s.lane l).unfinishedJobs .faulted s)) :=
        (ended.setLaneState empty .offline).of_frames rfl
      exact offline.of_frames ((ancillaryReport_frames ..).trans (fullReport_frames ..))
    · exact h
  · exact h

theorem FramesMatch.abortLanes {s : State} (h : FramesMatch s) (c : CommandCopy) : FramesMatch (runAbortLanes c s) := by
  have cut : ∀ (ks : List SlotNo) (t : State),
      (ks.foldl (fun s k => applyEnding .cut k s) t).frames = t.frames := by
    intro ks
    induction ks with
    | nil => exact fun _ => rfl
    | cons k ks ih => exact fun t => ih (applyEnding .cut k t)
  have listed : ∀ i ∈ s.laneA.unfinishedJobs ++ s.laneB.unfinishedJobs, i ∈ jobIds s.queue := fun i hi =>
    (List.mem_append.1 hi).elim (h.held.unfinished_listed .laneA i) (h.held.unfinished_listed .laneB i)
  have ended := (FramesRun.ended _ .aborted listed).framesMatch h
  exact ended.of_frames ((post_frames ..).trans (cut _ _))

theorem FramesMatch.restoreLane {s : State} (h : FramesMatch s) (c : CommandCopy) :
    FramesMatch (runRestoreLane c s) := by
  unfold runRestoreLane
  split
  · exact h.of_frames rfl
  · rename_i l _
    split
    · exact h.of_frames rfl
    · rename_i ho
      have empty := h.held.cleared l ho
      have same : ({ s.lane l with state := .online, stage := none, work := none } : Lane) =
          { s.lane l with state := .online } := by rw [← empty.1, ← empty.2]
      rw [same]
      exact h.keep ((h.held.setLaneState empty .online).of_frames (post_frames ..))

/-! ## Release -/

theorem queued_cons_refused {q : List Entry} {e : RefusedEntry} {l : LaneId} {j : Job} {x : Status} :
    Queued (.refused e :: q) l j x ↔ Queued q l j x := by
  simp [Queued]

theorem queued_cons_lane {q : List Entry} {e : LaneEntry} {l : LaneId} {j : Job} {x : Status} :
    Queued (.lane e :: q) l j x ↔ (e.job = j ∧ e.lane = l ∧ e.status = x) ∨ Queued q l j x := by
  simp [Queued, or_and_right, exists_or]

/-- The queue without its head, an entry whose frame stands nowhere. -/
theorem FramesHeld.dequeue {o : FrameOut} {s : State} (h : FramesHeld o s) {e : Entry} {rest : List Entry}
    (hq : s.queue = e :: rest) (waiting : ∀ l j, Waiting s.queue l j ↔ Waiting rest l j)
    (done : ∀ l j, Done s.queue l j ↔ Done rest l j) : FramesHeld o { s with queue := rest } := by
  have sub : ∀ i ∈ jobIds rest, i ∈ jobIds s.queue := fun i hi => by
    rw [hq]
    exact List.Sublist.mem hi ((List.sublist_cons_self e rest).filterMap _)
  refine ⟨h.sending, ?_, fun i hi => h.below i (sub i hi), h.sentBelow, fun l => ?_, h.arrives, h.cleared⟩
  · exact (hq ▸ h.unique : (jobIds (e :: rest)).Nodup).sublist ((List.sublist_cons_self e rest).filterMap _)
  · exact (h.lanes l).of_queued (fun j => (waiting l j).symm) (fun j => (done l j).symm)
      fun i hi g => ((h.lanes l).sent i hi).2 (sub i g)

theorem FramesHeld.dequeue_refused {o : FrameOut} {s : State} (h : FramesHeld o s) {e : RefusedEntry}
    {rest : List Entry} (hq : s.queue = .refused e :: rest) : FramesHeld o { s with queue := rest } :=
  h.dequeue hq (fun _ _ => by rw [hq]; exact queued_cons_refused) fun _ _ => by
    rw [hq]
    exact exists_congr fun _ => exists_congr fun _ => queued_cons_refused

theorem FramesHeld.dequeue_ended {o : FrameOut} {s : State} (h : FramesHeld o s) {e : LaneEntry}
    {rest : List Entry} (hq : s.queue = .lane e :: rest) {v : EndVerdict} (hv : e.status = .ended v) :
    FramesHeld o { s with queue := rest } := by
  have other : ∀ {l j x}, x.isOpen → (Queued s.queue l j x ↔ Queued rest l j x) := fun ho => by
    rw [hq]
    exact queued_cons_lane.trans (or_iff_right fun g => ho v (g.2.2.symm.trans hv))
  exact h.dequeue hq (fun _ _ => other fun _ => Status.noConfusion)
    fun _ _ => exists_congr fun _ => exists_congr fun _ => other fun _ => Status.noConfusion

/-- A FINISHED entry leaves the queue: its frame stands in OUT for the result to be sent (R117, R128). -/
theorem FramesHeld.dequeue_finished {r : Option Sending} {s : State} (h : FramesHeld ⟨r, none⟩ s) {e : LaneEntry}
    {rest : List Entry} (hq : s.queue = .lane e :: rest) {c : LaneOutcome} {n : Nat} (hs : e.status = .finished c n) :
    FramesHeld ⟨r, some (e.lane, e.job.id)⟩ { s with queue := rest } := by
  have ids : jobIds s.queue = e.job.id :: jobIds rest := by rw [hq]; rfl
  have fresh : e.job.id ∉ jobIds rest := (List.nodup_cons.1 (ids ▸ h.unique)).1
  have finished : Done s.queue e.lane e.job := ⟨c, n, e, by rw [hq]; exact List.mem_cons_self, rfl, rfl, hs⟩
  have place : (s.lane e.lane).jobs.out = some e.job := (((h.lanes e.lane).done e.job).1 finished).1
  have waiting : ∀ l j, Waiting rest l j ↔ Waiting s.queue l j := fun l j => by
    rw [hq]
    exact (queued_cons_lane.trans (or_iff_right fun g => by cases hs.symm.trans g.2.2)).symm
  have done : ∀ l j, Done rest l j ↔ Done s.queue l j ∧ j.id ≠ e.job.id := by
    intro l j
    constructor
    · rintro ⟨c, n, g⟩
      refine ⟨⟨c, n, ?_⟩, fun hid => fresh (hid ▸ g.mem_jobIds)⟩
      rw [hq]
      exact queued_cons_lane.2 (.inr g)
    · rintro ⟨⟨c, n, g⟩, hid⟩
      rw [hq] at g
      exact ⟨c, n, (queued_cons_lane.1 g).resolve_left fun k => hid (k.1 ▸ rfl)⟩
  have unsent : ∀ p : LaneId × Nat, none ≠ some p := fun _ g => nomatch g
  refine ⟨h.sending, (List.nodup_cons.1 (ids ▸ h.unique)).2, fun i hi => h.below i (ids ▸ List.mem_cons_of_mem _ hi),
    fun l i hi => ?_, fun l => ⟨fun j => (waiting l j).trans ((h.lanes l).waiting j), (h.lanes l).apart, fun j => ?_,
      fun i hi => ?_⟩, h.arrives, h.cleared⟩
  · cases hi
    exact h.below _ (ids ▸ List.mem_cons_self)
  · rw [done, (h.lanes l).done]
    constructor
    · rintro ⟨⟨hj, -⟩, hid⟩
      exact ⟨hj, fun g => hid (Prod.mk.inj (Option.some.inj g)).2.symm⟩
    · rintro ⟨hj, hn⟩
      refine ⟨⟨hj, unsent _⟩, fun hid => hn ?_⟩
      obtain ⟨x, m, queued⟩ := ((h.lanes l).done j).2 ⟨hj, unsent _⟩
      obtain ⟨y, k, finished⟩ := finished
      rw [(Queued.unique h.unique queued finished hid).1, hid]
  · cases hi
    exact ⟨⟨_, place, rfl⟩, fresh⟩

/-! ## Frame Out -/

/-- OUT is emptied of the frame that belongs to no entry (R98, R129). -/
theorem FramesHeld.freeOut {r : Option Sending} {l : LaneId} {i : Nat} {s : State}
    (h : FramesHeld ⟨r, some (l, i)⟩ s) : FramesHeld ⟨r, none⟩ (s.setLane l { s.lane l with out := none }) := by
  have others : ∀ m ≠ l, LaneMatches s.queue none m (s.lane m).jobs := by
    intro m hm
    obtain ⟨waiting, apart, done, -⟩ := h.lanes m
    refine ⟨waiting, apart, fun j => (done j).trans (and_congr_right fun _ => ?_), fun _ g => nomatch g⟩
    exact iff_of_true (fun g => hm (Prod.mk.inj (Option.some.inj g)).1.symm) fun g => nomatch g
  have own : LaneMatches s.queue none l ({ s.lane l with out := none } : Lane).jobs := by
    obtain ⟨waiting, apart, done, sent⟩ := h.lanes l
    obtain ⟨⟨j, hj, rfl⟩, -⟩ := sent i rfl
    refine ⟨waiting, apart, fun k => (done k).trans ?_, fun _ g => nomatch g⟩
    refine iff_of_false (fun g => ?_) fun g => nomatch g.1
    cases hj.symm.trans g.1
    exact g.2 rfl
  refine ⟨(setLane_sending ..).trans h.sending, ?_, ?_, fun _ _ g => (nomatch g), fun m => ?_, fun m => ?_, fun m => ?_⟩
  · rw [setLane_queue]; exact h.unique
  · rw [setLane_queue, setLane_nextJob]; exact h.below
  all_goals rw [lane_setLane]
  · rw [setLane_queue]
    split
    · rename_i e; exact e ▸ own
    · rename_i e; exact others m (Ne.symm e)
  · rw [setLane_intake]
    split
    · rename_i e; exact e ▸ h.arrives l
    · exact h.arrives m
  · split
    · exact h.cleared l
    · exact h.cleared m

/-- The frame that is in OUT for the result is emptied out of it (R129). -/
theorem FramesHeld.emptyOut_sent {r : Option Sending} {l : LaneId} {i : Nat} {s : State}
    (h : FramesHeld ⟨r, some (l, i)⟩ s) : FramesHeld ⟨r, none⟩ (emptyOut l i s) := by
  obtain ⟨⟨j, hj, rfl⟩, -⟩ := (h.lanes l).sent i rfl
  obtain ⟨f, hf, rfl⟩ := Lane.jobs_out.1 hj
  have emptied : emptyOut l f.job.id s = s.setLane l { s.lane l with out := none } := by
    simp [emptyOut, hf, Option.filter]
  rw [emptied]
  exact h.freeOut

/-- An OUT in which the job has no frame is left. -/
theorem FramesHeld.emptyOut_other {r : Option Sending} {s : State} (h : FramesHeld ⟨r, none⟩ s) {i : Nat}
    (hi : i ∉ jobIds s.queue) (l : LaneId) : FramesHeld ⟨r, none⟩ (emptyOut l i s) := by
  have kept : (s.lane l).out.filter (fun f => f.job.id != i) = (s.lane l).out := by
    cases hf : (s.lane l).out with
    | none => rfl
    | some f =>
      have queued := ((h.lanes l).done f.job).2 ⟨Lane.jobs_out.2 ⟨f, hf, rfl⟩, fun g => nomatch g⟩
      have other : f.job.id ≠ i := fun g => hi (g ▸ queued.mem_jobIds)
      simp [Option.filter, other]
  unfold emptyOut
  rw [kept]
  exact h.setLane (h.lanes l) (h.arrives l) (h.cleared l)

/-- No result is in sending: no OUT holds the frame of one. -/
theorem FramesMatch.held_idle {s : State} (h : FramesMatch s) (idle : s.sending = none) :
    FramesHeld ⟨none, none⟩ s := by
  have e : s.frameOut = ⟨none, none⟩ := by simp [State.frameOut, State.sentFrame, State.sendsFrom, idle]
  exact e ▸ h.held

theorem freeIfRetired_frames (k : SlotNo) (s : State) : (freeIfRetired k s).frames = s.frames := by
  unfold freeIfRetired
  split
  · split <;> rfl
  · rfl

theorem countReleased_frames (k : SlotNo) (n : RecipeNo) (s : State) : (countReleased k n s).frames = s.frames := by
  rw [countReleased, freeIfRetired_frames]; rfl

theorem endingAtRelease_frames (v : Verdict) (k : SlotNo) (s : State) : (endingAtRelease v k s).frames = s.frames := by
  unfold endingAtRelease
  split
  · exact applyEnding_frames ..
  · rfl

theorem drainProgress_frames (t : Tag) (seq : SeqNo) (s : State) : (drainProgress t seq s).frames = s.frames := by
  unfold drainProgress
  split
  · dsimp only
    split
    · exact drainEnd_frames ..
    · rfl
  · rfl

theorem releaseFailure_frames (k : SlotNo) (seq : SeqNo) (s : State) : (releaseFailure k seq s).frames = s.frames := by
  unfold releaseFailure
  split
  · split
    · exact raiseOn_frames ..
    · rfl
  · rfl

theorem FramesRun.peerRoll (atRoll : List Damage) (k : SlotNo) (seq : SeqNo) (s : State) :
    FramesRun s (peerRoll atRoll k seq s) := by
  have roll := (FramesRun.same (damage_frames atRoll s)).trans (.rollOver .release (some seq) k _)
  unfold Machine.peerRoll
  dsimp only
  split
  · exact roll.then_same (raiseOn_frames ..)
  · exact roll

theorem FramesRun.afterAdmit (atRoll : List Damage) (k : SlotNo) (seq : SeqNo) (s : State) :
    FramesRun s (afterAdmit atRoll k seq s) := by
  unfold Machine.afterAdmit
  split
  · split
    · exact .same (drainProgress_frames ..)
    · split
      · exact .peerRoll ..
      · exact .refl s
    all_goals exact .refl s
  · exact .refl s

theorem FramesRun.releaseVerified (atRoll : List Damage) (k : SlotNo) (seq : SeqNo) (s : State) :
    FramesRun s (releaseVerified atRoll k seq s).1 := by
  unfold Machine.releaseVerified
  split
  · split
    · exact .same rfl
    · have admitted : FramesRun s (s.updateSlot k (countAdmitted seq)) := .same rfl
      exact admitted.trans (.afterAdmit ..)
  · exact .refl s

theorem FramesRun.judge (atRoll : List Damage) (o : LaneOutcome) (k : SlotNo) (seq : SeqNo) (s : State) :
    FramesRun s (judge atRoll o k seq s).1 := by
  cases o with
  | finished => exact .same rfl
  | malformed => exact .refl s
  | verifyFail => exact .same (releaseFailure_frames ..)
  | verified => exact .releaseVerified ..

/-- The verdict of a release ends jobs at most, where a record check fails (R119 to R125). -/
theorem FramesRun.decideRelease (atRead atRoll : List Damage) (e : LaneEntry) (s : State) :
    FramesRun s (decideRelease atRead atRoll e s).1 := by
  unfold Machine.decideRelease
  split
  · have check := (FramesRun.same (damage_frames atRead s)).trans (.recordCheck .release e.carried e.job.slot _)
    unfold releaseFinished
    dsimp only
    split
    · exact check.trans (.judge ..)
    · exact check
  · exact .refl s
  · exact .refl s

theorem FramesRun.beforeSending (atRead atRoll : List Damage) (e : LaneEntry) (s : State) :
    FramesRun s (countReleased e.job.slot e.job.recipe (endingAtRelease (Machine.decideRelease atRead atRoll e s).2.1
      e.job.slot (Machine.decideRelease atRead atRoll e s).1)) :=
  ((FramesRun.decideRelease atRead atRoll e s).then_same (endingAtRelease_frames ..)).then_same
    (countReleased_frames ..)

/-- A result is in sending, from the lane whose OUT holds the frame that belongs to no entry. -/
theorem FramesHeld.send {o : FrameOut} {s : State} (h : FramesHeld o s) {x : Option Sending}
    (hx : o.frame.map Prod.fst = x.bind Sending.lane) : FramesMatch { s with sending := x } :=
  have held : FramesHeld ⟨x, o.frame⟩ { s with sending := x } :=
    ⟨rfl, h.unique, h.below, h.sentBelow, h.lanes, h.arrives, h.cleared⟩
  held.framesMatch hx

/-- The sending of a FINISHED entry's result begins, from OUT or with OUT emptied (R128, R129). -/
theorem FramesHeld.sendLane_finished {r : Option Sending} {e : LaneEntry} {s : State}
    (h : FramesHeld ⟨r, some (e.lane, e.job.id)⟩ s) (v : Verdict) (n : Nat) : FramesMatch (sendLane e v n s) := by
  unfold sendLane
  by_cases hn : n = 0
  · rw [if_pos hn]
    exact h.emptyOut_sent.send (by simp [hn])
  · rw [if_neg hn]
    exact h.send (by simp [hn])

/-- The sending of a result with no output bytes begins, of an entry that has no frame (R119, R128). -/
theorem FramesHeld.sendLane_ended {r : Option Sending} {e : LaneEntry} {s : State} (h : FramesHeld ⟨r, none⟩ s)
    (he : e.job.id ∉ jobIds s.queue) (v : Verdict) : FramesMatch (sendLane e v 0 s) := by
  unfold sendLane
  rw [if_pos rfl]
  exact (h.emptyOut_other he e.lane).send rfl

/-- The release of a LANE entry (R117). -/
theorem FramesMatch.releaseLane {s : State} (h : FramesMatch s) (idle : s.sending = none) {e : LaneEntry}
    {rest : List Entry} (hq : s.queue = .lane e :: rest) (ready : e.status ≠ .pending) (atRead atRoll : List Damage) :
    FramesMatch (releaseLane atRead atRoll e { s with queue := rest }) := by
  have run := FramesRun.beforeSending atRead atRoll e { s with queue := rest }
  have held := h.held_idle idle
  unfold Machine.releaseLane
  cases hs : e.status with
  | pending => exact absurd hs ready
  | finished c n => exact (run.held (held.dequeue_finished hq hs)).sendLane_finished _ _
  | ended v =>
    have ids : jobIds s.queue = e.job.id :: jobIds rest := by rw [hq]; rfl
    have fresh : e.job.id ∉ jobIds rest := (List.nodup_cons.1 (ids ▸ held.unique)).1
    have length : (decideRelease atRead atRoll e { s with queue := rest }).2.2 = 0 := by rw [decideRelease, hs]
    dsimp only
    rw [length]
    exact (run.held (held.dequeue_ended hq hs)).sendLane_ended (by rw [run.jobIds]; exact fresh) _

theorem FramesMatch.releaseHead {s : State} (h : FramesMatch s) (atRead atRoll : List Damage) :
    FramesMatch (releaseHead atRead atRoll s) := by
  unfold Machine.releaseHead
  split
  · rename_i e rest idle hq
    split
    · rename_i ready
      cases e with
      | refused e =>
        exact ((h.held_idle idle).dequeue_refused hq).send rfl
      | lane e => exact h.releaseLane idle hq (by simpa [Entry.ready] using ready) atRead atRoll
    · exact h
  · exact h

/-- The sink accepts a word; the last one empties the OUT the result was sent from (R129). -/
theorem FramesMatch.acceptWord {s : State} (h : FramesMatch s) : FramesMatch (acceptWord s) := by
  unfold Machine.acceptWord
  split
  · rename_i x hx
    split
    · refine h.held.send (h.sentFrame_fst.trans ?_)
      simp [State.sendsFrom, hx]
    · have emptied : FramesHeld ⟨s.sending, none⟩ (emptySentOut x s) := by
        have fst := h.sentFrame_fst
        have held := h.held
        unfold State.frameOut at held
        unfold emptySentOut
        cases hl : x.lane with
        | none =>
          rw [show s.sentFrame = none by simp [State.sentFrame, State.sendsFrom, hx, hl]] at held
          exact held
        | some l =>
          rw [show s.sendsFrom = some l from sendsFrom_eq_some_iff.2 ⟨x, hx, hl⟩] at fst
          obtain ⟨⟨m, i⟩, hi, rfl⟩ := Option.map_eq_some_iff.1 fst
          rw [hi] at held
          exact held.freeOut
      exact emptied.send rfl
  · exact h

/-! ## SOFT_RESET -/

theorem softResetBlocks_lane (s : State) (l : LaneId) :
    (softResetBlocks s).lane l = { Lane.initial with out := keptOut (softResetSlots s) l } := by
  cases l <;> rfl

/-- What OUT keeps through a soft reset: the frame of a result in sending (R112, R134). -/
theorem keptOut_softResetSlots (s : State) (l : LaneId) :
    keptOut (softResetSlots s) l = if s.sendsFrom = some l then (s.lane l).out else none := by
  have lane : (softResetSlots s).lane l = s.lane l := by cases l <;> rfl
  have sending : (softResetSlots s).sending = s.sending := rfl
  unfold keptOut
  rw [lane, sending]
  cases hx : s.sending <;> simp [State.sendsFrom, hx]

/-- SOFT_RESET drops every entry and every frame but the one in sending (R93, R112, R134). -/
theorem FramesMatch.softResetBlocks {s : State} (h : FramesMatch s) : FramesMatch (softResetBlocks s) := by
  have held := h.held
  have held' : FramesHeld s.frameOut (Machine.softResetBlocks s) := by
    refine ⟨rfl, List.nodup_nil, fun i hi => (nomatch hi), held.sentBelow, fun l => ?_, fun l => ?_, fun l => ?_⟩
    all_goals rw [softResetBlocks_lane, keptOut_softResetSlots]
    · refine ⟨fun j => ?_, fun _ _ hi => (nomatch hi), fun j => ?_, fun i hi => ⟨?_, List.not_mem_nil⟩⟩
      · refine iff_of_false (fun ⟨e, he, _⟩ => nomatch he) fun g => g.elim (nomatch ·) (nomatch ·)
      · refine iff_of_false (fun ⟨_, _, e, he, _⟩ => nomatch he) fun ⟨hj, hn⟩ => hn ?_
        obtain ⟨f, hf, rfl⟩ := Lane.jobs_out.1 hj
        dsimp only at hf
        split at hf
        · rename_i hl; exact sentFrame_eq_some_iff.2 ⟨hl, f, hf, rfl⟩
        · cases hf
      · obtain ⟨hl, f, hf, rfl⟩ := sentFrame_eq_some_iff.1 hi
        exact ⟨f.job, Lane.jobs_out.2 ⟨f, by dsimp only; rw [if_pos hl, hf], rfl⟩, rfl⟩
    · exact ⟨fun _ _ hi => (nomatch hi), fun _ hg => nomatch hg⟩
    · exact fun _ => ⟨rfl, rfl⟩
  exact h.keep held'

theorem framesLost_frames (ks : List SlotNo) (s : State) : (ks.foldl framesLost s).frames = s.frames := by
  induction ks generalizing s with
  | nil => rfl
  | cons k ks ih => exact (ih (framesLost s k)).trans ((applyEnding_frames ..).trans (raiseOn_frames ..))

theorem FramesMatch.softReset {s : State} (h : FramesMatch s) (c : CommandCopy) : FramesMatch (runSoftReset c s) :=
  h.softResetBlocks.of_frames ((post_frames ..).trans (framesLost_frames ..))

end Sys2Proof.Machine
end

section
/-! PROOFS. Every command, reset and event of the serial line, and so every step, keeps frames, entries and intake
together. -/

namespace Sys2Proof.Machine
open Sys2Proof

/-! ## Commands -/

section
variable {s : State} {c : CommandCopy}

theorem FramesRun.guarded {report : List Byte} {go : State → State} (k : FramesRun s (go s)) :
    FramesRun s (guarded c report go s) := by
  unfold Machine.guarded
  split
  · exact .same rfl
  · exact k

theorem FramesRun.onSlot {go : CommandCopy → SlotNo → State → State} (k : ∀ j, FramesRun s (go c j s)) :
    FramesRun s (onSlot go c s) := by
  refine .guarded ?_
  split
  · exact .same rfl
  · exact k _

theorem FramesRun.post {t : State} (r : FramesRun s t) (x : ResultCode) (f : List Byte) : FramesRun s (post c x f t) :=
  r.then_same rfl

theorem takeSlot_frames (report : List Byte) (n : NewContext) (standby : Bool) (key : AnchorKey)
    (named : Option SlotNo) : (takeSlot c report n standby key named s).frames = s.frames := by
  unfold takeSlot
  split <;> rfl

theorem runInstall_run : FramesRun s (runInstall c s) := by
  refine .guarded ?_
  split
  · exact .same rfl
  · unfold installChecked
    split
    · exact .same rfl
    · split
      · exact .same rfl
      · split
        · exact .same rfl
        · exact .same (takeSlot_frames ..)

theorem succeedActive_frames (o : Overrides) (k : SlotNo) : (succeedActive c o k s).frames = s.frames := by
  unfold succeedActive
  split
  · split
    · unfold succeedFrom
      dsimp only
      split
      · split
        · rfl
        · split
          · rfl
          · exact takeSlot_frames ..
      · rfl
    · rfl
  · rfl

theorem runSucceed_run : FramesRun s (runSucceed c s) := by
  refine .guarded ?_
  split
  · exact .same rfl
  · split
    · exact .same rfl
    · split
      · exact (FramesRun.recordCheck .command none (slotAt c.block 0x00) s).then_same (succeedActive_frames ..)
      · exact .same rfl

theorem completeUnwrap_frames : (completeUnwrap s).frames = s.frames := by
  unfold completeUnwrap
  split
  · split
    · unfold finishUnwrap
      split
      · rfl
      · unfold recheckAndBind
        split <;> rfl
    · rfl
  · rfl

theorem runActivate_run : FramesRun s (runActivate c s) := by
  refine .onSlot fun k => ?_
  unfold activateSlot activateDone
  split
  · split <;> exact (FramesRun.rollOver .command none k s).post _ _
  · exact .same rfl

theorem retireChecked_frames (k : SlotNo) : (retireChecked c k s).frames = s.frames := by
  unfold retireChecked
  split
  · exact (post_frames ..).trans (retireSlot_frames ..)
  · rfl

theorem runRetire_run : FramesRun s (runRetire c s) := by
  refine .onSlot fun k => ?_
  have checked := (FramesRun.recordCheck .command none k s).then_same (retireChecked_frames (c := c) k)
  unfold retireNamed
  split
  · exact .same rfl
  · split
    · exact checked
    · exact checked
    · exact checked
    all_goals exact .same rfl

theorem modifyChecked_frames (ch : SettingChanges) (k : SlotNo) : (modifyChecked c ch k s).frames = s.frames := by
  have tested : ∀ t : State, (budgetTest ch k t).frames = t.frames := by
    intro t
    unfold budgetTest
    split
    · exact drainEnd_frames ..
    · rfl
  unfold modifyChecked
  split
  · split
    · split
      · exact (post_frames ..).trans (tested _)
      · rfl
    · rfl
  · rfl

theorem runModify_run : FramesRun s (runModify c s) := by
  refine .guarded ?_
  dsimp only
  split
  · exact .same rfl
  · split
    · exact .same rfl
    · split
      · exact (FramesRun.recordCheck .command none (slotAt c.block 0x00) s).then_same (modifyChecked_frames ..)
      · exact .same rfl

theorem runPurge_run : FramesRun s (runPurge c s) := by
  refine .onSlot fun k => ?_
  unfold purgeNamed
  split
  · split
    · split <;> exact .same rfl
    · exact .same rfl
  · exact .same rfl

theorem runQuery_run : FramesRun s (runQuery c s) := by
  unfold runQuery querySlot
  split <;> exact (FramesRun.recordCheck .command none (slotAt c.block 0x00) s).post _ _

theorem runQueryTag_run : FramesRun s (runQueryTag c s) := by
  unfold runQueryTag
  split
  · exact .same rfl
  · split <;> exact .same rfl

theorem runWriteRecipe_run : FramesRun s (runWriteRecipe c s) := by
  refine .guarded ?_
  split <;> exact .same rfl

theorem runClearRecipe_run : FramesRun s (runClearRecipe c s) := by
  refine .guarded ?_
  split
  · split <;> exact .same rfl
  · exact .same rfl

theorem runReadRecipe_run : FramesRun s (runReadRecipe c s) := by
  unfold runReadRecipe
  split <;> exact .same rfl

theorem runCollect_run : FramesRun s (runCollect c s) := by
  unfold runCollect
  split <;> exact .same rfl

theorem runCollectNext_run : FramesRun s (runCollectNext c s) := by
  unfold runCollectNext
  split
  · exact .same rfl
  · split <;> exact .same rfl

theorem runProgramAnchor_run : FramesRun s (runProgramAnchor c s) := by
  refine .guarded ?_
  split
  · exact .same rfl
  · split
    · exact .same rfl
    · unfold programStart
      split <;> exact .same rfl

theorem runRevokeAnchor_run : FramesRun s (runRevokeAnchor c s) := by
  refine .guarded ?_
  split
  · exact .same rfl
  · unfold revokeStart
    split <;> exact .same rfl

theorem runSetLock_run : FramesRun s (runSetLock c s) := by
  refine .guarded ?_
  split
  · split <;> exact .same rfl
  · exact .same rfl

theorem runClearLock_run : FramesRun s (runClearLock c s) := by
  refine .guarded ?_
  split
  · split <;> exact .same rfl
  · exact .same rfl

theorem completeProgram_frames (readBack : Option AnchorKey) : (completeProgram readBack s).frames = s.frames := by
  unfold completeProgram
  split
  · unfold finishProgram
    split <;> rfl
  · rfl

theorem completeRevoke_frames (readBack : AnchorState) : (completeRevoke readBack s).frames = s.frames := by
  unfold completeRevoke
  split
  · unfold finishRevoke
    split <;> rfl
  · rfl

/-- The command that a byte written to Start names (Table 10-8). -/
theorem FramesMatch.runOf (h : FramesMatch s) (code : Byte) : FramesMatch (runOf code c s) := by
  have pick : ∀ {x : Byte} {f g : CommandCopy → State → State}, FramesMatch (f c s) → FramesMatch (g c s) →
      FramesMatch ((if code = x then f else g) c s) := by
    intro x f g hf hg
    split
    · exact hf
    · exact hg
  have run : ∀ {t : State}, FramesRun s t → FramesMatch t := fun r => r.framesMatch h
  exact pick (run runInstall_run) <| pick (run runSucceed_run) <| pick (run runActivate_run) <|
    pick (run runRetire_run) <| pick (run runModify_run) <| pick (run runPurge_run) <| pick (run runQuery_run) <|
    pick (run runQueryTag_run) <| pick (h.softReset c) <| pick (run runWriteRecipe_run) <|
    pick (run runClearRecipe_run) <| pick (run runReadRecipe_run) <| pick (h.abortLanes c) <| pick (h.restoreLane c) <|
    pick (run runCollect_run) <| pick (run runCollectNext_run) <| pick (run runProgramAnchor_run) <|
    pick (run runRevokeAnchor_run) <| pick (h.of_frames (t := runReadAnchorState c s) rfl) <|
    pick (run runSetLock_run) <| pick (run runClearLock_run) <| pick (h.of_frames (t := runReadLocks c s) rfl)
    (h.of_frames (t := runBadCommand c s) rfl)

end

section
variable {s : State} (h : FramesMatch s)
include h

/-- A Start write (R154, R155, R175). -/
theorem FramesMatch.writeStart {code : Byte} {run : CommandCopy → State → State}
    (k : ∀ c t, FramesMatch t → FramesMatch (run c t)) : FramesMatch (writeStart code run s) := by
  unfold Machine.writeStart
  split
  · exact h
  · split
    · exact h.of_frames rfl
    · exact k _ _ (h.of_frames rfl)

/-- A byte written to a location of the Register Window (R190). -/
theorem FramesMatch.writeWindow (addr x : Byte) : FramesMatch (writeWindow addr x s) := by
  unfold Machine.writeWindow
  split
  · exact h.of_frames rfl
  · split
    · exact h.of_frames rfl
    · split
      · exact h.writeStart fun _ _ g => g.runOf x
      · split
        · exact h.of_frames rfl
        · exact h

theorem FramesMatch.whenRunning {f : State → State} (k : FramesMatch (f s)) : FramesMatch (whenRunning f s) := by
  unfold Machine.whenRunning
  split
  · exact k
  · exact h

/-! ## Time, power and the serial line -/

theorem FramesMatch.expireTimer (k : SlotNo) : FramesMatch (expireTimer k s) := by
  unfold Machine.expireTimer
  split
  · exact h.of_frames (drainEnd_frames ..)
  · exact h

theorem FramesMatch.tick : FramesMatch (tick s) := by
  refine h.whenRunning ?_
  split
  · exact h.expireTimer _
  · exact h.of_frames rfl

theorem FramesMatch.assertRst : FramesMatch (assertRst s) := by
  unfold Machine.assertRst
  split
  · exact h.of_frames rfl
  · exact framesMatch_reset.of_frames rfl

theorem FramesMatch.powerOn : FramesMatch (powerOn s) := by
  unfold Machine.powerOn
  split
  · exact framesMatch_reset.of_frames rfl
  · exact h

theorem FramesMatch.endStartup : FramesMatch (endStartup s) := by
  unfold Machine.endStartup
  split
  · exact h.of_frames rfl
  · exact h

theorem FramesMatch.receive {bits : List Bool} {sdi : Bool} {partialByte : List Bool → Port}
    {whole : Byte → State → State} (k : ∀ x, FramesMatch (whole x s)) :
    FramesMatch (receive bits sdi partialByte whole s) := by
  unfold Machine.receive
  split
  · exact h.of_frames rfl
  · exact k _

theorem FramesMatch.riseSck (sdi : Bool) : FramesMatch (riseSck sdi s) := by
  unfold Machine.riseSck
  split
  · exact h.receive fun _ => h.of_frames rfl
  · exact h.receive fun _ => h.of_frames rfl
  · exact h.receive fun x => (h.writeWindow _ x).of_frames rfl
  all_goals exact h

/-- An event of the serial line (R189). -/
theorem FramesMatch.serialEvent (e : SerialEvent) : FramesMatch (serialEvent e s) := by
  cases e with
  | csFall =>
    show FramesMatch (fallCs s)
    unfold fallCs
    split <;> exact h.of_frames rfl
  | csRise => exact h.of_frames rfl
  | sckRise sdi => exact h.whenRunning (h.riseSck sdi)
  | sckFall =>
    refine h.whenRunning ?_
    unfold fallSck
    split <;> exact h.of_frames rfl

/-! ## Steps -/

theorem FramesMatch.damage (ds : List Damage) : FramesMatch (damage ds s) := h.of_frames (damage_frames ds s)

end

/-- Every command of the table. -/
theorem FramesMatch.exec {s t : State} (h : FramesMatch s) (i : Instr) (e : exec i s = .next t) : FramesMatch t := by
  have event : ∀ {f : State → State}, FramesHeld s.frameOut (f s) → FramesMatch (Machine.whenRunning f s) :=
    fun k => h.whenRunning (h.keep k)
  have same : ∀ {f : State → State}, (f s).frames = s.frames → FramesMatch (Machine.whenRunning f s) :=
    fun k => h.whenRunning (h.of_frames k)
  have start : ∀ {code : Byte} {f : CommandCopy → State → State}, (∀ c u, FramesRun u (f c u)) →
      FramesMatch (Machine.writeStart code f s) := fun k => h.writeStart fun c u g => (k c u).framesMatch g
  have damaged : ∀ {code : Byte} {ds : List Damage} {f : CommandCopy → State → State}, (∀ c u, FramesRun u (f c u)) →
      FramesMatch (Machine.writeStart code (fun c u => f c (Machine.damage ds u)) s) := fun k =>
    h.writeStart fun c _ g => (k c _).framesMatch (g.damage _)
  cases i with
  | jobFirstWord w => cases e; exact event (h.held.frameInWord [] w)
  | jobHeader w atLookup atRoll =>
    have found := h.damage atLookup
    cases e; exact h.whenRunning (found.keep (found.held.frameInWord atRoll w))
  | frameWord w => cases e; exact event (h.held.frameInWord [] w)
  | discardWord w => cases e; exact event (h.held.frameInWord [] w)
  | stageToWork l => cases e; exact event (h.held.moveToWork l)
  | keyFetch l => cases e; exact event (h.held.fetchKey l)
  | header l => cases e; exact event (h.held.headerPhase l)
  | body l => cases e; exact event (h.held.bodyPhase l)
  | tag l => cases e; exact event (h.held.tagPhase l)
  | workToOut l => cases e; exact event (h.held.moveToOut l)
  | laneFault l => cases e; exact event (h.held.faultLane l)
  | release atRead atRoll => cases e; exact h.whenRunning (h.releaseHead atRead atRoll)
  | resultWord => cases e; exact h.whenRunning h.acceptWord
  | drainTimerExpiry k => cases e; exact h.whenRunning (h.expireTimer k)
  | install => cases e; exact start fun _ _ => runInstall_run
  | succeed found => cases e; exact damaged fun _ _ => runSucceed_run
  | unwrapCompletion => cases e; exact same completeUnwrap_frames
  | activate found => cases e; exact damaged fun _ _ => runActivate_run
  | retire found => cases e; exact damaged fun _ _ => runRetire_run
  | modify found => cases e; exact damaged fun _ _ => runModify_run
  | purge => cases e; exact start fun _ _ => runPurge_run
  | query found => cases e; exact damaged fun _ _ => runQuery_run
  | queryTag => cases e; exact start fun _ _ => runQueryTag_run
  | softReset => cases e; exact h.writeStart fun c _ g => g.softReset c
  | writeRecipe => cases e; exact start fun _ _ => runWriteRecipe_run
  | clearRecipe => cases e; exact start fun _ _ => runClearRecipe_run
  | readRecipe => cases e; exact start fun _ _ => runReadRecipe_run
  | abortLanes => cases e; exact h.writeStart fun c _ g => g.abortLanes c
  | restoreLane => cases e; exact h.writeStart fun c _ g => g.restoreLane c
  | collect => cases e; exact start fun _ _ => runCollect_run
  | collectNext => cases e; exact start fun _ _ => runCollectNext_run
  | programAnchor => cases e; exact start fun _ _ => runProgramAnchor_run
  | anchorProgramComplete readBack => cases e; exact same (completeProgram_frames readBack)
  | revokeAnchor => cases e; exact start fun _ _ => runRevokeAnchor_run
  | anchorRevokeComplete readBack => cases e; exact same (completeRevoke_frames readBack)
  | readAnchorState => cases e; exact start fun _ _ => .same rfl
  | setLock => cases e; exact start fun _ _ => runSetLock_run
  | clearLock => cases e; exact start fun _ _ => runClearLock_run
  | readLocks => cases e; exact start fun _ _ => .same rfl
  | badCommand code => cases e; exact h.writeStart fun _ _ g => g.runOf code
  | startRefused code => cases e; exact h.writeStart fun _ _ g => g.runOf code
  | interruptFlagsWrite x => cases e; exact same rfl
  | interruptMaskWrite x => cases e; exact same rfl
  | registerWrite addr x => cases e; exact h.whenRunning (h.writeWindow addr x)
  | lockLineLevel asserted => cases e; exact h.of_frames rfl
  | rstAssert => cases e; exact h.assertRst
  | rstRelease => cases e; exact h.of_frames rfl
  | powerOn => cases e; exact h.powerOn
  | powerLoss => cases e; exact framesMatch_reset.of_frames rfl
  | startupEnd => cases e; exact h.endStartup

theorem FramesMatch.step {s t : State} (h : FramesMatch s) (e : step s = .next t) : FramesMatch t := by
  unfold Machine.step at e
  split at e
  · rename_i i rest _
    exact (h.of_frames (t := { s with pending := rest }) rfl).exec i e
  · cases e
    unfold idle
    split
    · rename_i event rest _
      exact (h.of_frames (t := { s with serial := rest }) rfl).serialEvent event
    · exact h.tick

/-- Settles O57: of the frame path, each step is one of the operations above, or leaves its blocks as they are. -/
theorem stepKeepsFramesMatched : Obligations.StepKeepsFramesMatched := fun _ _ h e => h.step e

end Sys2Proof.Machine
end

section
/-! PROOFS. The moves of a frame through its lane, lane faults, ABORT_LANES and RESTORE_LANE. -/

namespace Sys2Proof.Machine
open Sys2Proof

/-! ## The moves and KEY_FETCH -/

/-- KEY_FETCH copies these from a context that has a key; neither its state nor its check values are asked (R99). -/
theorem fetchFrom_of_key {c : Context} {key : ContextKey} (h : c.key = some key) :
    fetchFrom c = some
      { key := key, width := c.keyWidth, salt := c.salt, generation := c.generation, marker := c.marker } := by
  rw [fetchFrom, h]; rfl

theorem handedLength_eq (j : Job) (o : LaneOutcome) : handedLength j o = if o = .malformed then 0 else j.outLen := by
  cases o <;> rfl

section
variable {l : LaneId} {s : State} (running : s.power = .running)
include running

theorem exec_stageToWork {f : StageFrame} (stage : (s.lane l).stage = some f) (arrived : f.arrived = true)
    (empty : (s.lane l).work = none) :
    exec (.stageToWork l) s = .next (s.setLane l { s.lane l with
      stage := none
      work := some
        { job := f.job, input := f.bytes, phase := .keyFetch, fetched := none, header := [], nonce := none
          authClear := [], cipherBytes := [], output := [] } }) := by
  simp only [exec, execStageToWork, whenRunning_running running, moveToWork, stage, empty, arrived, if_true]

variable {f : WorkFrame} (work : (s.lane l).work = some f)
include work

theorem exec_keyFetch {c : Context} {k : FetchedKey} (phase : f.phase = .keyFetch)
    (slot : s.slot f.job.slot = some c) (fetched : fetchFrom c = some k) :
    exec (.keyFetch l) s = .next (setWork l { f with fetched := some k, phase := .header } s) := by
  simp only [exec, execKeyFetch, whenRunning_running running, fetchKey, work, phase, slot, Option.bind_some, fetched,
    if_true]

theorem exec_workToOut {o : LaneOutcome} (phase : f.phase = .done o) (empty : (s.lane l).out = none) :
    exec (.workToOut l) s = .next
      { s.setLane l { s.lane l with work := none, out := some { job := f.job, bytes := f.output } } with
        queue := s.queue.map (finishEntry f.job.id o (handedLength f.job o)) } := by
  simp only [exec, execWorkToOut, whenRunning_running running, moveToOut, work, empty, phase]

end

/-- Settles O18, one move at a time. -/
theorem framesMoveForward : Obligations.FramesMoveForward := by
  refine ⟨fun l s f c key running work phase slot key_held => ?_,
    fun l s f running stage arrived empty => exec_stageToWork running stage arrived empty,
    fun l s f o running work phase empty => ?_⟩
  · rw [exec_keyFetch running work phase slot (fetchFrom_of_key key_held)]
    rfl
  · rw [exec_workToOut running work phase empty, handedLength_eq]
    rfl

/-! ## Lane faults -/

theorem reservedOf_eq (j : Job) : reservedOf j = if j.dir = .toProtect then some j.reserved else none := by
  cases h : j.dir <;> simp [reservedOf, h]

/-- The full report comes before the ancillary one, and both on the lane already OFFLINE (R107, R108). -/
theorem exec_laneFault {l : LaneId} {s : State} {f : WorkFrame} {p : CondPhase} (running : s.power = .running)
    (work : (s.lane l).work = some f) (phase : faultPhase f.phase = some p) :
    exec (.laneFault l) s = .next
      (ancillaryReport l f.job (s.lane l).stage
        (fullReport l p f.job (laneOffline l (endJobs (s.lane l).unfinishedJobs .faulted s)))) := by
  simp only [exec, execLaneFault, whenRunning_running running, faultLane, work, phase]

/-- Settles O24, by whether a frame stands in STAGE. -/
theorem laneFaultTakesLaneOffline : Obligations.LaneFaultTakesLaneOffline := by
  intro l s f p running work phase
  have jobs : (s.lane l).unfinishedJobs = ((s.lane l).stage.map fun g => g.job.id).toList ++ [f.job.id] := by
    rw [Lane.unfinishedJobs, work]; rfl
  rw [exec_laneFault running work phase, jobs, fullReport, reservedOf_eq]
  cases (s.lane l).stage with
  | none => rfl
  | some g => rfl

/-! ## ABORT_LANES -/

/-- The jobs of the frames in STAGE and WORK of a lane. -/
def Lane.unfinished (x : Lane) : List Job :=
  (x.stage.map StageFrame.job).toList ++ (x.work.map WorkFrame.job).toList

theorem Lane.unfinishedJobs_eq (x : Lane) : x.unfinishedJobs = x.unfinished.map Job.id := by
  simp [Lane.unfinishedJobs, Lane.unfinished, Option.toList_map, Function.comp_def]

theorem Lane.unfinishedSlots_eq (x : Lane) : x.unfinishedSlots = x.unfinished.map Job.slot := by
  simp [Lane.unfinishedSlots, Lane.unfinished, Option.toList_map, Function.comp_def]

/-- Endings on slot after slot touch the Condition Records alone (R141). -/
theorem foldl_applyEnding_frame (e : Ending) (js : List Job) (s : State) :
    js.foldl (fun u j => applyEnding e j.slot u) s =
      { s with conds := (js.foldl (fun u j => applyEnding e j.slot u) s).conds } := by
  induction js generalizing s with
  | nil => rfl
  | cons j js ih => rw [List.foldl_cons, ih, applyEnding_frame]

theorem foldl_applyEnding_copied (e : Ending) (js : List Job) (s : State) (code : Byte) :
    js.foldl (fun u j => applyEnding e j.slot u) (s.copied code) =
      (js.foldl (fun u j => applyEnding e j.slot u) s).copied code :=
  List.foldl_hom (fun s : State => s.copied code) fun _ _ => rfl

/-- Jobs ended ABORTED, and then the ending CUT on the records of their slots (R110). -/
def abortJobs (js : List Job) (s : State) : State :=
  js.foldl (fun u j => applyEnding .cut j.slot u) (endJobs (js.map Job.id) .aborted s)

theorem abortJobs_copied (js : List Job) (s : State) (code : Byte) :
    abortJobs js (s.copied code) = (abortJobs js s).copied code :=
  foldl_applyEnding_copied .cut js (endJobs (js.map Job.id) .aborted s) code

theorem abortJobs_commandBlock (js : List Job) (s : State) : (abortJobs js s).commandBlock = s.commandBlock := by
  rw [abortJobs, foldl_applyEnding_frame]; rfl

theorem abortJobs_lockLine (js : List Job) (s : State) : (abortJobs js s).lockLine = s.lockLine := by
  rw [abortJobs, foldl_applyEnding_frame]; rfl

theorem runAbortLanes_eq (c : CommandCopy) (s : State) :
    runAbortLanes c s =
      post c .done [BitVec.ofNat 8 s.laneA.unfinished.length, BitVec.ofNat 8 s.laneB.unfinished.length]
        (abortJobs (s.laneA.unfinished ++ s.laneB.unfinished) s) := by
  simp only [runAbortLanes, abortJobs, Lane.unfinishedJobs_eq, Lane.unfinishedSlots_eq, ← List.map_append,
    List.foldl_map, List.length_map]

theorem exec_abortLanes {s : State} (h : CommandReady s) :
    exec .abortLanes s = .next ((abortJobs (s.laneA.unfinished ++ s.laneB.unfinished) s).answered 0x18 .done
      [BitVec.ofNat 8 s.laneA.unfinished.length, BitVec.ofNat 8 s.laneB.unfinished.length]) := by
  simp only [exec, execAbortLanes, writeStart_ready h, runAbortLanes_eq, abortJobs_copied]
  exact congrArg _ (post_answered (abortJobs_commandBlock _ s) (abortJobs_lockLine _ s))

/-! ## RESTORE_LANE -/

theorem laneOf_laneByte (l : LaneId) : laneOf (laneByte l) = some l := by cases l <;> rfl

theorem laneOf_other {b : Byte} (h0 : b ≠ 0x00) (h1 : b ≠ 0x01) : laneOf b = none := by
  rw [laneOf, if_neg h0, if_neg h1]

theorem lane_copied (s : State) (code : Byte) (l : LaneId) : (s.copied code).lane l = s.lane l := by cases l <;> rfl

theorem setLane_copied (s : State) (code : Byte) (l : LaneId) (x : Lane) :
    (s.copied code).setLane l x = (s.setLane l x).copied code := by cases l <;> rfl

section
variable {s : State} (h : CommandReady s)
include h

theorem exec_restoreLane_ready :
    exec .restoreLane s = .next (runRestoreLane (copyAtStart 0x19 s) (s.copied 0x19)) :=
  congrArg _ (writeStart_ready h)

theorem exec_restoreLane_badField (named : laneOf (byteAt s.commandBlock 0x00) = none) :
    exec .restoreLane s = .next (s.answered 0x19 .badField []) := by
  rw [exec_restoreLane_ready h, runRestoreLane, copyAtStart_block, named]
  exact congrArg _ (post_copied ..)

variable {l : LaneId} (named : laneOf (byteAt s.commandBlock 0x00) = some l)
include named

theorem exec_restoreLane_online (online : (s.lane l).state = .online) :
    exec .restoreLane s = .next (s.answered 0x19 .badState []) := by
  simp only [exec_restoreLane_ready h, runRestoreLane, copyAtStart_block, named, lane_copied, online, post_copied]

theorem exec_restoreLane_offline (offline : (s.lane l).state = .offline) :
    exec .restoreLane s = .next
      ((s.setLane l { state := .online, stage := none, work := none, out := (s.lane l).out }).answered 0x19 .done
        []) := by
  simp only [exec_restoreLane_ready h, runRestoreLane, copyAtStart_block, named, lane_copied, offline, setLane_copied]
  rw [post_answered (setLane_commandBlock ..) (setLane_lockLine ..)]

end

/-- Settles O47, RESTORE_LANE by the lane its byte names and by that lane's state. -/
theorem laneCommandsAct : Obligations.LaneCommandsAct := by
  refine ⟨fun s h => exec_abortLanes h, fun s h => ⟨fun l byte => ?_, fun h0 h1 => ?_⟩⟩
  · have named : laneOf (byteAt s.commandBlock 0x00) = some l := by rw [byte, laneOf_laneByte]
    exact ⟨exec_restoreLane_online h named, exec_restoreLane_offline h named⟩
  · exact exec_restoreLane_badField h (laneOf_other h0 h1)

end Sys2Proof.Machine
end

section
/-! PROOFS. Releases judged and unjudged, and the words of a result on Frame Out. -/

namespace Sys2Proof.Machine
open Sys2Proof

/-! ## Releases -/

theorem exec_release_refused {s : State} {e : RefusedEntry} {rest : List Entry} (h : HeadFree s (.refused e) rest)
    (ds dr : List Damage) : exec (.release ds dr) s = .next (sendRefused e { s with queue := rest }) := by
  simp only [exec, execRelease, whenRunning_running h.running, releaseHead, h.idle, h.head, Entry.ready, if_true]

/-- Nothing is released while a result is in sending, from an empty queue, or past a PENDING head (R116). -/
theorem releaseHead_held {s : State}
    (held : s.sending ≠ none ∨ s.queue = [] ∨ ∃ e rest, s.queue = .lane e :: rest ∧ e.status = .pending)
    (ds dr : List Damage) : releaseHead ds dr s = s := by
  unfold releaseHead
  split
  · rename_i e rest idle head
    obtain busy | empty | ⟨d, tail, queue, pending⟩ := held
    · exact absurd idle busy
    · cases head.symm.trans empty
    · cases head.symm.trans queue
      exact if_neg (by simp [Entry.ready, pending])
  · rfl

/-- Settles O26. -/
theorem entriesReleasedUnjudged : Obligations.EntriesReleasedUnjudged := by
  refine ⟨fun s e rest ds dr h => exec_release_refused h ds dr, fun s e rest v ds dr h ended => ?_,
    fun s ds dr held => ?_⟩
  · rw [exec_release_lane h (by rw [ended]; exact Status.noConfusion)]
    simp only [decideRelease, ended]
    cases v <;> rfl
  · have still : whenRunning (releaseHead ds dr) s = s := by
      rw [whenRunning, releaseHead_held held, ite_self]
    exact congrArg _ still

/-- Settles O27. -/
theorem protectReleasedPassed : Obligations.ProtectReleasedPassed :=
  fun _ _ dr _ _ _ h => exec_release_finished h dr

/-! ## Frame Out -/

theorem toNat_append_byte {n : Nat} (x : BitVec n) (b : Byte) : (x ++ b).toNat = x.toNat * 256 + b.toNat := by
  rw [BitVec.toNat_append, ← Nat.shiftLeft_add_eq_or_of_lt b.isLt, Nat.shiftLeft_eq]

/-- Four bytes as a number are the word they make, the first highest (R193). -/
theorem ofNat_natOf_four (a b c d : Byte) : BitVec.ofNat 32 (natOf [a, b, c, d]) = a ++ b ++ c ++ d := by
  have number : natOf [a, b, c, d] = (a ++ b ++ c ++ d).toNat := by
    simp only [natOf, List.foldl, toNat_append_byte]
    omega
  rw [number]
  exact BitVec.ofNat_toNat ..

theorem outputWord_eq (bs : List Byte) (i : Nat) :
    outputWord bs i = bs.getD (4 * i) 0 ++ bs.getD (4 * i + 1) 0 ++ bs.getD (4 * i + 2) 0 ++ bs.getD (4 * i + 3) 0 :=
  ofNat_natOf_four ..

/-- The word presented of a result in sending (R129, R194). -/
def sentWord (x : Sending) (s : State) : FrameWord where
  data := if x.wordsSent < 4 then headerWord x x.wordsSent else outputWord (outputBytes x s) (x.wordsSent - 4)
  first := decide (x.wordsSent = 0)
  last := decide (x.wordsSent + 1 = resultWords x.outLen)
  count := if x.wordsSent + 1 = resultWords x.outLen then countCode x.outLen else 0

theorem sentWord_header {x : Sending} {i : Nat} (sent : x.wordsSent = i) (below : i < 4) (s : State) :
    (sentWord x s).data = headerWord x i := by
  rw [sentWord, sent, if_pos below]

theorem sentWord_output {x : Sending} {i : Nat} (sent : x.wordsSent = i + 4) (s : State) :
    (sentWord x s).data = outputWord (outputBytes x s) i := by
  rw [sentWord, sent, if_neg (by omega), Nat.add_sub_cancel]

theorem sentWord_count {x : Sending} (last : x.wordsSent + 1 = resultWords x.outLen) (s : State) :
    (sentWord x s).count.toNat = x.outLen % 4 := by
  rw [sentWord, if_pos last]
  exact BitVec.toNat_ofNat ..

section
variable {s : State} {x : Sending} (running : s.power = .running) (sending : s.sending = some x)
include running sending

theorem frameOutWord_sending : frameOutWord s = some (sentWord x s) := by
  rw [frameOutWord, if_pos running, sending]
  rfl

theorem exec_resultWord_more (more : x.wordsSent + 1 < resultWords x.outLen) :
    exec .resultWord s = .next { s with sending := some { x with wordsSent := x.wordsSent + 1 } } := by
  simp only [exec, execResultWord, whenRunning_running running, acceptWord, sending, more, if_true]

theorem exec_resultWord_last (last : resultWords x.outLen ≤ x.wordsSent + 1) :
    exec .resultWord s = .next { emptySentOut x s with sending := none } := by
  simp only [exec, execResultWord, whenRunning_running running, acceptWord, sending, Nat.not_lt.2 last, if_false]

end

/-- Settles O32: the word presented by its place in the result, then its acceptance. -/
theorem resultWordsLeaveInOrder : Obligations.ResultWordsLeaveInOrder := by
  intro s x running sending
  refine ⟨⟨sentWord x s, frameOutWord_sending running sending, decide_eq_true_iff, decide_eq_true_iff,
    fun last => sentWord_count last s, fun sent => sentWord_header sent (by decide) s,
    fun sent => sentWord_header sent (by decide) s, fun sent => sentWord_header sent (by decide) s,
    fun sent => sentWord_header sent (by decide) s, fun i sent => ?_⟩,
    exec_resultWord_more running sending, exec_resultWord_last running sending⟩
  rw [sentWord_output sent, outputWord_eq]
  rfl

end Sys2Proof.Machine
end

section
/-! PROOFS. What one step does to the Return Queue. -/

namespace Sys2Proof.Machine
open Sys2Proof

/-! ## What an entry keeps -/

theorem Entry.Continues.refl (d : Entry) : d.Continues d := by
  cases d with
  | refused e => rfl
  | lane e => exact ⟨rfl, rfl, fun _ ended => ended⟩

theorem Entry.Continues.trans {a b c : Entry} (h : a.Continues b) (g : b.Continues c) : a.Continues c := by
  cases a with
  | refused a =>
    cases b with
    | refused b => cases h; exact g
    | lane b => cases h
  | lane a =>
    cases b with
    | refused b => cases h
    | lane b =>
      cases c with
      | refused c => cases g
      | lane c =>
        obtain ⟨job, lane, ended⟩ := h
        obtain ⟨job', lane', ended'⟩ := g
        exact ⟨job'.trans job, lane'.trans lane, fun v e => ended' v (ended v e)⟩

/-- An entry that is ENDED already is left as it is (R104, R115). -/
theorem endEntry_continues (ids : List Nat) (v : EndVerdict) (d : Entry) : d.Continues (endEntry ids v d) := by
  cases d with
  | refused e => exact .refl _
  | lane e =>
    by_cases ends : e.job.id ∈ ids ∧ e.status.isOpen
    · rw [endEntry_open v ends.1 ends.2]
      exact ⟨rfl, rfl, fun w ended => absurd ended (ends.2 w)⟩
    · have other := (not_and_or.1 ends).imp_right not_forall_not.1
      rw [endEntry_other v other]
      exact .refl _

/-- A frame moves to OUT under a PENDING entry alone (R98). -/
theorem finishEntry_continues (i : Nat) (o : LaneOutcome) (n : Nat) (d : Entry) :
    d.Continues (finishEntry i o n d) := by
  cases d with
  | refused e => exact .refl _
  | lane e =>
    unfold finishEntry
    dsimp only
    split
    · rename_i own
      exact ⟨rfl, rfl, fun w ended => nomatch own.2.symm.trans ended⟩
    · exact .refl _

theorem writeSeq_continues (i : Nat) (seq : SeqNo) (d : Entry) : d.Continues (writeSeq i seq d) := by
  cases d with
  | refused e => exact .refl _
  | lane e =>
    unfold writeSeq
    dsimp only
    split
    · exact ⟨rfl, rfl, fun _ ended => ended⟩
    · exact .refl _

/-! ## Queues whose entries are kept -/

/-- The entries stay in their order, each standing for what it stood for (R114). -/
abbrev Stays (p q : List Entry) : Prop := List.Forall₂ Entry.Continues p q

theorem Stays.refl (p : List Entry) : Stays p p := List.forall₂_same.2 fun d _ => .refl d

theorem Stays.of_eq {p q : List Entry} (h : q = p) : Stays p q := h ▸ .refl p

theorem Stays.trans {p q r : List Entry} (h : Stays p q) (g : Stays q r) : Stays p r := by
  induction h generalizing r with
  | nil => exact g
  | cons head _ ih =>
    cases g with
    | cons head' tail' => exact .cons (head.trans head') (ih tail')

theorem Stays.map {f : Entry → Entry} (h : ∀ d : Entry, d.Continues (f d)) (p : List Entry) : Stays p (p.map f) :=
  List.forall₂_map_right_iff.2 (List.forall₂_same.2 fun d _ => h d)

/-- Where jobs are ended at most, the queue stays. -/
theorem FramesRun.stays {s t : State} (r : FramesRun s t) : Stays s.queue t.queue := by
  induction r with
  | same e => exact .of_eq (congrArg FrameBlocks.queue e)
  | ended ids v => exact .map (endEntry_continues ids v) _
  | trans _ _ ih ih' => exact ih.trans ih'

/-- At most one entry comes in at the tail. -/
def Grows (p q : List Entry) : Prop := ∃ kept new, q = kept ++ new ∧ new.length ≤ 1 ∧ Stays p kept

theorem Stays.grows {p q : List Entry} (h : Stays p q) : Grows p q :=
  ⟨q, [], (List.append_nil q).symm, Nat.zero_le 1, h⟩

theorem Stays.append {p q : List Entry} (h : Stays p q) (d : Entry) : Grows p (q ++ [d]) :=
  ⟨q, [d], rfl, Nat.le_refl 1, h⟩

theorem Grows.map {p q : List Entry} (h : Grows p q) {f : Entry → Entry} (g : ∀ d : Entry, d.Continues (f d)) :
    Grows p (q.map f) := by
  obtain ⟨kept, new, rfl, one, stays⟩ := h
  exact ⟨kept.map f, new.map f, List.map_append, by rwa [List.length_map], stays.trans (.map g kept)⟩

/-- What a step does to the queue: it grows at the tail, or at a release it loses its head, or at a reset it is emptied
(R114, R134, R135). -/
inductive QueueMove (release reset : Prop) (p q : List Entry) : Prop
  | grows (h : Grows p q)
  | releases (at_release : release) (h : Stays p.tail q)
  | drops (at_reset : reset) (h : q = [])

theorem Stays.move {release reset : Prop} {p q : List Entry} (h : Stays p q) : QueueMove release reset p q :=
  .grows h.grows

theorem QueueMove.imp {release release' reset reset' : Prop} {p q : List Entry} (h : QueueMove release reset p q)
    (hr : release → release') (hs : reset → reset') : QueueMove release' reset' p q := by
  cases h with
  | grows h => exact .grows h
  | releases at_release h => exact .releases (hr at_release) h
  | drops at_reset h => exact .drops (hs at_reset) h

/-! ## Frame In -/

theorem streamWord_stays (j : Job) (l : LaneId) (n : Nat) (w : FrameWord) (s : State) :
    Stays s.queue (streamWord j l n w s).queue := by
  have ended : ∀ i, Stays s.queue (endFraming j i s).queue := fun _ => .map (endEntry_continues _ _) _
  have written : ∀ b, Stays s.queue (writeStage l (frameBytes w) b s).queue := fun _ => .of_eq (setLane_queue ..)
  unfold streamWord
  dsimp only
  split
  · exact ended _
  · split
    · split
      · exact written true
      · exact ended _
    · exact written false

theorem refuseFrame_grows (w : FrameWord) (j : JobHeader) (v : Verdict) (k : Option SlotNo) {p : List Entry} {s : State}
    (h : Stays p s.queue) : Grows p (refuseFrame w j v k s).queue := by
  have counted : (countRefused k s).queue = s.queue := updateSome_queue ..
  exact Stays.append (counted ▸ h) _

theorem dispatchToLane_grows (w : FrameWord) (j : Job) (bytes : Nat) {p : List Entry} {s : State}
    (h : Stays p s.queue) : Grows p (dispatchToLane w j bytes s).queue := by
  set u := countInFlight j.slot j.recipe (reserve j.dir bytes j.slot s)
  have reserved : u.queue = s.queue := congrArg FrameBlocks.queue (reserve_frames j.dir bytes j.slot s)
  have placed : Grows p (placeJob j (chooseLane s) u).queue := Stays.append (reserved ▸ h) _
  unfold dispatchToLane
  dsimp only
  split
  · exact placed.map (endEntry_continues _ _)
  · exact placed

/-- The taking of a Job Header appends one entry (R72, R114). -/
theorem takeJobHeader_grows (atRoll : List Damage) (w0 : Word) (w : FrameWord) (s : State) :
    Grows s.queue (takeJobHeader atRoll w0 w s).queue := by
  have refused : ∀ v, Grows s.queue (refuseFrame w (jobHeaderOf w0 w.data) v none s).queue := fun v =>
    refuseFrame_grows w _ v none (.refl _)
  unfold takeJobHeader
  dsimp only
  split
  · exact refused _
  · split
    · exact refused _
    · split
      · exact refused _
      · rename_i layout _
        have checked := (FramesRun.checksFromLookup atRoll (jobHeaderOf w0 w.data) (metered layout) s).stays
        unfold settleDispatch
        split
        · exact refuseFrame_grows w _ _ _ checked
        · exact dispatchToLane_grows w _ _ checked

theorem frameInWord_grows (atRoll : List Damage) (w : FrameWord) (s : State) :
    Grows s.queue (frameInWord atRoll w s).queue := by
  have waits : Grows s.queue s.queue := (Stays.refl _).grows
  unfold frameInWord
  split
  · split <;> exact waits
  · split
    · unfold wordInJobWord
      split
      · exact waits
      · exact takeJobHeader_grows atRoll _ w s
    · exact waits
  · unfold wordInStreaming
    split
    · exact waits.map (endEntry_continues _ _)
    · exact (streamWord_stays _ _ _ w s).grows
  · unfold wordInDiscarding
    split <;> exact waits

/-! ## The lanes -/

theorem moveToWork_queue (l : LaneId) (s : State) : (moveToWork l s).queue = s.queue := by
  unfold moveToWork
  split
  · split
    · exact setLane_queue ..
    · rfl
  · rfl

theorem fetchKey_queue (l : LaneId) (s : State) : (fetchKey l s).queue = s.queue := by
  unfold fetchKey
  split
  · split
    · split
      · exact setWork_queue ..
      · rfl
    · rfl
  · rfl

theorem headerPhase_stays (l : LaneId) (s : State) : Stays s.queue (headerPhase l s).queue := by
  unfold headerPhase
  split
  · split
    · split
      · exact .of_eq (setWork_queue ..)
      · exact .map (writeSeq_continues _ _) _
    · exact .refl _
  · exact .refl _

theorem bodyPhase_queue (l : LaneId) (s : State) : (bodyPhase l s).queue = s.queue := by
  unfold bodyPhase
  split
  · split
    · exact setWork_queue ..
    · rfl
  · rfl

theorem tagPhase_queue (l : LaneId) (s : State) : (tagPhase l s).queue = s.queue := by
  unfold tagPhase
  split
  · split
    · exact setWork_queue ..
    · rfl
  · rfl

theorem moveToOut_stays (l : LaneId) (s : State) : Stays s.queue (moveToOut l s).queue := by
  unfold moveToOut
  split
  · split
    · exact .map (finishEntry_continues _ _ _) _
    all_goals exact .refl _
  · exact .refl _

theorem faultLane_stays (l : LaneId) (s : State) : Stays s.queue (faultLane l s).queue := by
  unfold faultLane
  split
  · split
    · have ended : Stays s.queue (laneOffline l (endJobs (s.lane l).unfinishedJobs .faulted s)).queue :=
        Stays.trans (.map (endEntry_continues _ _) _) (.of_eq (setLane_queue ..))
      exact ended.trans (.of_eq (congrArg FrameBlocks.queue ((ancillaryReport_frames ..).trans (fullReport_frames ..))))
    · exact .refl _
  · exact .refl _

/-! ## Release and Frame Out -/

theorem sendLane_queue (e : LaneEntry) (v : Verdict) (n : Nat) (s : State) : (sendLane e v n s).queue = s.queue := by
  unfold sendLane
  dsimp only
  split
  · exact setLane_queue ..
  · rfl

/-- A release takes the head away, or is held back (R116, R117). -/
theorem releaseHead_move {reset : Prop} (atRead atRoll : List Damage) (s : State) :
    QueueMove True reset s.queue (releaseHead atRead atRoll s).queue := by
  have held : QueueMove True reset s.queue s.queue := (Stays.refl _).move
  unfold releaseHead
  split
  · rename_i e rest _ head
    split
    · rw [head]
      cases e with
      | refused e => exact .releases trivial (.refl rest)
      | lane e =>
        have run := (FramesRun.beforeSending atRead atRoll e { s with queue := rest }).stays
        exact .releases trivial (run.trans (.of_eq (sendLane_queue ..)))
    · exact held
  · exact held

theorem acceptWord_queue (s : State) : (acceptWord s).queue = s.queue := by
  unfold acceptWord
  split
  · split
    · rfl
    · unfold emptySentOut
      dsimp only
      split
      · exact setLane_queue ..
      · rfl
  · rfl

/-! ## Commands -/

theorem runAbortLanes_stays (c : CommandCopy) (s : State) : Stays s.queue (runAbortLanes c s).queue := by
  have aborted : ∀ js, (abortJobs js s).queue = s.queue.map (endEntry (js.map Job.id) .aborted) := fun js => by
    rw [abortJobs, foldl_applyEnding_frame]; rfl
  rw [runAbortLanes_eq, post_queue, aborted]
  exact .map (endEntry_continues _ _) _

theorem runRestoreLane_queue (c : CommandCopy) (s : State) : (runRestoreLane c s).queue = s.queue := by
  unfold runRestoreLane
  split
  · rfl
  · split
    · rfl
    · exact (post_queue ..).trans (setLane_queue ..)

/-- SOFT_RESET drops every entry (R134). -/
theorem runSoftReset_queue (c : CommandCopy) (s : State) : (runSoftReset c s).queue = [] :=
  congrArg FrameBlocks.queue (framesLost_frames (lostSlots s.queue (softResetSlots s)) (softResetBlocks s))

section
variable {release : Prop} {s : State}

/-- The command that a byte written to Start names: SOFT_RESET alone empties the queue (Table 10-8). -/
theorem runOf_move (code : Byte) (c : CommandCopy) :
    QueueMove release (code = 0x09) s.queue (runOf code c s).queue := by
  have pick : ∀ {x : Byte} {f g : CommandCopy → State → State},
      (code = x → QueueMove release (code = 0x09) s.queue (f c s).queue) →
      QueueMove release (code = 0x09) s.queue (g c s).queue →
      QueueMove release (code = 0x09) s.queue ((if code = x then f else g) c s).queue := by
    intro x f g hf hg
    split
    · rename_i named; exact hf named
    · exact hg
  have run : ∀ {x : Byte} {t : State}, FramesRun s t → code = x → QueueMove release (code = 0x09) s.queue t.queue :=
    fun r _ => r.stays.move
  have same : ∀ {x : Byte} {t : State}, t.queue = s.queue → code = x →
      QueueMove release (code = 0x09) s.queue t.queue := fun e _ => (Stays.of_eq e).move
  exact pick (run runInstall_run) <| pick (run runSucceed_run) <| pick (run runActivate_run) <|
    pick (run runRetire_run) <| pick (run runModify_run) <| pick (run runPurge_run) <| pick (run runQuery_run) <|
    pick (run runQueryTag_run) <| pick (fun named => .drops named (runSoftReset_queue c s)) <|
    pick (run runWriteRecipe_run) <| pick (run runClearRecipe_run) <| pick (run runReadRecipe_run) <|
    pick (fun _ => (runAbortLanes_stays c s).move) <| pick (same (runRestoreLane_queue c s)) <|
    pick (run runCollect_run) <| pick (run runCollectNext_run) <| pick (run runProgramAnchor_run) <|
    pick (run runRevokeAnchor_run) <| pick (same (t := runReadAnchorState c s) rfl) <| pick (run runSetLock_run) <|
    pick (run runClearLock_run) <| pick (same (t := runReadLocks c s) rfl) (Stays.refl s.queue).move

variable {reset : Prop}

theorem writeStart_move {code : Byte} {run : CommandCopy → State → State}
    (k : ∀ c u, QueueMove release reset u.queue (run c u).queue) :
    QueueMove release reset s.queue (writeStart code run s).queue := by
  unfold writeStart
  split
  · exact (Stays.refl _).move
  · split
    · exact (Stays.refl s.queue).move
    · exact k _ { s with copy := some (copyAtStart code s), commandDone := false }

/-- A byte written to a location of the Register Window: 09h at Start alone empties the queue (R190). -/
theorem writeWindow_move (addr x : Byte) :
    QueueMove release (addr = 0x70 ∧ x = 0x09) s.queue (writeWindow addr x s).queue := by
  have still : QueueMove release (addr = 0x70 ∧ x = 0x09) s.queue s.queue := (Stays.refl _).move
  unfold writeWindow
  split
  · exact still
  · split
    · exact still
    · split
      · rename_i start
        exact writeStart_move fun c u => (runOf_move x c).imp id fun code => ⟨start, code⟩
      · split <;> exact still

theorem whenRunning_move {f : State → State} (k : QueueMove release reset s.queue (f s).queue) :
    QueueMove release reset s.queue (whenRunning f s).queue := by
  unfold whenRunning
  split
  · exact k
  · exact (Stays.refl _).move

end

/-! ## Time, resets and the serial line -/

theorem expireTimer_queue (k : SlotNo) (s : State) : (expireTimer k s).queue = s.queue := by
  unfold expireTimer
  split
  · exact drainEnd_queue ..
  · rfl

theorem tick_queue (s : State) : (tick s).queue = s.queue := by
  unfold tick whenRunning
  split
  · dsimp only
    split
    · exact expireTimer_queue ..
    · rfl
  · rfl

theorem assertRst_move {release : Prop} (s : State) : QueueMove release True s.queue (assertRst s).queue := by
  unfold assertRst
  split
  · exact (Stays.refl s.queue).move
  · exact .drops trivial rfl

theorem powerOn_move {release : Prop} (s : State) : QueueMove release True s.queue (powerOn s).queue := by
  unfold powerOn
  split
  · exact .drops trivial rfl
  · exact (Stays.refl s.queue).move

theorem endStartup_queue (s : State) : (endStartup s).queue = s.queue := by
  unfold endStartup
  split <;> rfl

/-- The last bit of 09h for Start is received (R189). -/
def StartsSoftReset (s : State) (e : SerialEvent) : Prop :=
  ∃ x bits, e = .sckRise x ∧ s.port = .writing 0x70 bits ∧ byteOfBits (bits ++ [x]) = 0x09

theorem riseSck_move {release : Prop} (x : Bool) (s : State) :
    QueueMove release (StartsSoftReset s (.sckRise x)) s.queue (riseSck x s).queue := by
  have still : QueueMove release (StartsSoftReset s (.sckRise x)) s.queue s.queue := (Stays.refl _).move
  unfold riseSck receive
  split
  · split <;> exact still
  · split <;> exact still
  · rename_i addr bits writing
    split
    · exact still
    · exact (writeWindow_move addr _).imp id fun ⟨start, code⟩ => ⟨x, bits, rfl, start ▸ writing, code⟩
  all_goals exact still

theorem serialEvent_move {release : Prop} (e : SerialEvent) (s : State) :
    QueueMove release (StartsSoftReset s e) s.queue (serialEvent e s).queue := by
  have still : QueueMove release (StartsSoftReset s e) s.queue s.queue := (Stays.refl _).move
  cases e with
  | csFall =>
    show QueueMove _ _ _ (fallCs s).queue
    unfold fallCs
    split <;> exact still
  | csRise => exact still
  | sckRise x => exact whenRunning_move (riseSck_move x s)
  | sckFall =>
    refine whenRunning_move ?_
    unfold fallSck
    split <;> exact still

/-! ## Steps -/

/-- The row that takes the head away (R117). -/
def ReleasesHead (i : Instr) : Prop := ∃ ds dr, i = .release ds dr

/-- The rows that may empty the queue: SOFT_RESET in any spelling, RST# and the changes of power (R134, R135). -/
def EmptiesQueue (i : Instr) : Prop :=
  i ∈ [.softReset, .registerWrite 0x70 0x09, .startRefused 0x09, .badCommand 0x09, .rstAssert, .powerLoss, .powerOn]

/-- Every command of the table. -/
theorem exec_move {s t : State} (i : Instr) (e : exec i s = .next t) :
    QueueMove (ReleasesHead i) (EmptiesQueue i) s.queue t.queue := by
  have word : ∀ {f : State → State}, Grows s.queue (f s).queue →
      QueueMove (ReleasesHead i) (EmptiesQueue i) s.queue (whenRunning f s).queue :=
    fun k => whenRunning_move (.grows k)
  have event : ∀ {f : State → State}, Stays s.queue (f s).queue →
      QueueMove (ReleasesHead i) (EmptiesQueue i) s.queue (whenRunning f s).queue := fun k => word k.grows
  have same : ∀ {f : State → State}, (f s).queue = s.queue →
      QueueMove (ReleasesHead i) (EmptiesQueue i) s.queue (whenRunning f s).queue := fun k => event (.of_eq k)
  have start : ∀ {code : Byte} {f : CommandCopy → State → State}, (∀ c u, FramesRun u (f c u)) →
      QueueMove (ReleasesHead i) (EmptiesQueue i) s.queue (writeStart code f s).queue :=
    fun k => writeStart_move fun c u => (k c u).stays.move
  have damaged : ∀ {code : Byte} {ds : List Damage} {f : CommandCopy → State → State}, (∀ c u, FramesRun u (f c u)) →
      QueueMove (ReleasesHead i) (EmptiesQueue i) s.queue (writeStart code (fun c u => f c (damage ds u)) s).queue :=
    fun k => start fun c u => (FramesRun.same (damage_frames _ u)).trans (k c _)
  have still : QueueMove (ReleasesHead i) (EmptiesQueue i) s.queue s.queue := (Stays.refl _).move
  cases i with
  | jobFirstWord w => cases e; exact word (frameInWord_grows [] w s)
  | jobHeader w atLookup atRoll =>
    have taken := frameInWord_grows atRoll w (damage atLookup s)
    rw [damage_queue] at taken
    cases e; exact word taken
  | frameWord w => cases e; exact word (frameInWord_grows [] w s)
  | discardWord w => cases e; exact word (frameInWord_grows [] w s)
  | stageToWork l => cases e; exact same (moveToWork_queue l s)
  | keyFetch l => cases e; exact same (fetchKey_queue l s)
  | header l => cases e; exact event (headerPhase_stays l s)
  | body l => cases e; exact same (bodyPhase_queue l s)
  | tag l => cases e; exact same (tagPhase_queue l s)
  | workToOut l => cases e; exact event (moveToOut_stays l s)
  | laneFault l => cases e; exact event (faultLane_stays l s)
  | release atRead atRoll =>
    cases e
    exact whenRunning_move ((releaseHead_move atRead atRoll s).imp (fun _ => ⟨atRead, atRoll, rfl⟩) id)
  | resultWord => cases e; exact same (acceptWord_queue s)
  | drainTimerExpiry k => cases e; exact same (expireTimer_queue k s)
  | install => cases e; exact start fun _ _ => runInstall_run
  | succeed found => cases e; exact damaged fun _ _ => runSucceed_run
  | unwrapCompletion => cases e; exact same (congrArg FrameBlocks.queue completeUnwrap_frames)
  | activate found => cases e; exact damaged fun _ _ => runActivate_run
  | retire found => cases e; exact damaged fun _ _ => runRetire_run
  | modify found => cases e; exact damaged fun _ _ => runModify_run
  | purge => cases e; exact start fun _ _ => runPurge_run
  | query found => cases e; exact damaged fun _ _ => runQuery_run
  | queryTag => cases e; exact start fun _ _ => runQueryTag_run
  | softReset => cases e; exact writeStart_move fun c u => .drops (by simp [EmptiesQueue]) (runSoftReset_queue c u)
  | writeRecipe => cases e; exact start fun _ _ => runWriteRecipe_run
  | clearRecipe => cases e; exact start fun _ _ => runClearRecipe_run
  | readRecipe => cases e; exact start fun _ _ => runReadRecipe_run
  | abortLanes => cases e; exact writeStart_move fun c u => (runAbortLanes_stays c u).move
  | restoreLane => cases e; exact writeStart_move fun c u => (Stays.of_eq (runRestoreLane_queue c u)).move
  | collect => cases e; exact start fun _ _ => runCollect_run
  | collectNext => cases e; exact start fun _ _ => runCollectNext_run
  | programAnchor => cases e; exact start fun _ _ => runProgramAnchor_run
  | anchorProgramComplete readBack =>
    cases e; exact same (congrArg FrameBlocks.queue (completeProgram_frames readBack))
  | revokeAnchor => cases e; exact start fun _ _ => runRevokeAnchor_run
  | anchorRevokeComplete readBack =>
    cases e; exact same (congrArg FrameBlocks.queue (completeRevoke_frames readBack))
  | readAnchorState => cases e; exact start fun _ _ => .same rfl
  | setLock => cases e; exact start fun _ _ => runSetLock_run
  | clearLock => cases e; exact start fun _ _ => runClearLock_run
  | readLocks => cases e; exact start fun _ _ => .same rfl
  | badCommand code =>
    cases e; exact writeStart_move fun c u => (runOf_move code c).imp id fun named => by simp [EmptiesQueue, named]
  | startRefused code =>
    cases e; exact writeStart_move fun c u => (runOf_move code c).imp id fun named => by simp [EmptiesQueue, named]
  | interruptFlagsWrite x => cases e; exact same rfl
  | interruptMaskWrite x => cases e; exact same rfl
  | registerWrite addr x =>
    cases e
    refine whenRunning_move ((writeWindow_move addr x).imp id ?_)
    rintro ⟨rfl, rfl⟩
    simp [EmptiesQueue]
  | lockLineLevel asserted => cases e; exact still
  | rstAssert => cases e; exact (assertRst_move s).imp id fun _ => by simp [EmptiesQueue]
  | rstRelease => cases e; exact still
  | powerOn => cases e; exact (powerOn_move s).imp id fun _ => by simp [EmptiesQueue]
  | powerLoss => cases e; exact .drops (by simp [EmptiesQueue]) rfl
  | startupEnd => cases e; exact (Stays.of_eq (endStartup_queue s)).move

/-- A release waits for the step. -/
def ReleaseNext (s : State) : Prop := ∃ ds dr rest, s.pending = .release ds dr :: rest

/-- What the step takes may empty the queue: a command, or with none waiting the next event of the serial line. -/
def ResetNext (s : State) : Prop :=
  (∃ i, EmptiesQueue i ∧ ∃ rest, s.pending = i :: rest) ∨
    s.pending = [] ∧ ∃ e rest, s.serial = e :: rest ∧ StartsSoftReset s e

theorem step_move {s t : State} (e : step s = .next t) : QueueMove (ReleaseNext s) (ResetNext s) s.queue t.queue := by
  unfold step at e
  split at e
  · rename_i i rest next
    refine (exec_move i e).imp ?_ fun resets => .inl ⟨i, resets, rest, next⟩
    rintro ⟨ds, dr, rfl⟩
    exact ⟨ds, dr, rest, next⟩
  · rename_i none_waits
    cases e
    unfold idle
    split
    · rename_i event rest next
      exact (serialEvent_move event { s with serial := rest }).imp False.elim fun resets =>
        .inr ⟨none_waits, event, rest, next, resets⟩
    · exact (Stays.of_eq (tick_queue s)).move

/-- Settles O60: each row, and each event of the serial line, makes one of the three moves. -/
theorem queueKeepsJobHeaderOrder : Obligations.QueueKeepsJobHeaderOrder := by
  intro s t e
  cases step_move e with
  | grows h =>
    obtain ⟨kept, new, queue, one, stays⟩ := h
    exact .inr ⟨0, kept, new, Nat.zero_le 1, queue, one, fun zero => (nomatch zero), stays⟩
  | releases at_release stays =>
    refine .inr ⟨1, t.queue, [], Nat.le_refl 1, (List.append_nil _).symm, Nat.zero_le 1, fun _ => at_release, ?_⟩
    rwa [List.drop_one]
  | drops at_reset empty =>
    obtain row | ⟨none_waits, event, rest, next, x, bits, rfl, port, code⟩ := at_reset
    · exact .inl ⟨empty, .inl row⟩
    · exact .inl ⟨empty, .inr ⟨none_waits, x, rest, bits, next, port, code⟩⟩

end Sys2Proof.Machine
end

section
/-! PROOFS. COLLECT, COLLECT_NEXT and ATTN#. -/

namespace Sys2Proof.Machine
open Sys2Proof

/-! ## What a collected record reports -/

/-- Deleting a record and taking a Start touch different blocks. -/
theorem deleteCond_copied (k : SlotNo) (s : State) (code : Byte) :
    deleteCond k (s.copied code) = (deleteCond k s).copied code := rfl

/-- The report's head reads nothing that the taking of a Start changes. -/
theorem collectHead_copied (k : SlotNo) (s : State) (code : Byte) :
    collectHead k (s.copied code) = collectHead k s := rfl

/-- The slot reports as it stands before the change, the Attention Queue's length without the slot (R146). -/
theorem collectHead_deleteCond (k : SlotNo) (s : State) :
    collectHead k (deleteCond k s) =
      [slotByte k, slotStateByte (s.slot k), inFlightByte s k]
        ++ bytesOf 2 (s.attention.filter fun j => j != k).length := by
  have slot : (deleteCond k s).slot k = s.slot k := slot_of_slots (deleteCond_slots k s) k
  simp only [collectHead, inFlightByte, slot, deleteCond_attention]

/-- After a Start, the report and the deletion are one completed change of the state that took it (R146, R154). -/
theorem collectRecord_answered (code : Byte) (k : SlotNo) (r : CondRecord) (s : State) :
    collectRecord (copyAtStart code s) k r (s.copied code) =
      (deleteCond k s).answered code .done (collectHead k (deleteCond k s) ++ recordReport r) := by
  rw [collectRecord, deleteCond_copied, collectHead_copied,
    post_answered (deleteCond_commandBlock k s) (deleteCond_lockLine k s)]

/-! ## COLLECT -/

theorem runCollect_some {c : CommandCopy} {s : State} {r : CondRecord} (hr : s.cond (slotAt c.block 0x00) = some r) :
    runCollect c s = collectRecord c (slotAt c.block 0x00) r s := by rw [runCollect, hr]

theorem runCollect_none {c : CommandCopy} {s : State} (hn : s.cond (slotAt c.block 0x00) = none) :
    runCollect c s = post c .nothingPending (collectHead (slotAt c.block 0x00) s) s := by rw [runCollect, hn]

theorem exec_collect_ready {s : State} (h : CommandReady s) :
    exec .collect s = .next (runCollect (copyAtStart 0x20 s) (s.copied 0x20)) := congrArg _ (writeStart_ready h)

theorem exec_collect_record {s : State} (h : CommandReady s) {r : CondRecord} (hr : s.cond s.namedSlot = some r) :
    exec .collect s = .next
      ((deleteCond s.namedSlot s).answered 0x20 .done
        (collectHead s.namedSlot (deleteCond s.namedSlot s) ++ recordReport r)) := by
  rw [exec_collect_ready h, runCollect_some (c := copyAtStart 0x20 s) (s := s.copied 0x20) hr]
  exact congrArg _ (collectRecord_answered 0x20 s.namedSlot r s)

theorem exec_collect_nothing {s : State} (h : CommandReady s) (hn : s.cond s.namedSlot = none) :
    exec .collect s = .next (s.answered 0x20 .nothingPending (collectHead s.namedSlot s)) := by
  rw [exec_collect_ready h, runCollect_none (c := copyAtStart 0x20 s) (s := s.copied 0x20) hn, collectHead_copied,
    post_copied]
  rfl

/-! ## COLLECT_NEXT -/

theorem runCollectNext_empty {c : CommandCopy} {s : State} (he : s.attention = []) :
    runCollectNext c s = post c .nothingPending [] s := by rw [runCollectNext, he]

theorem runCollectNext_head {c : CommandCopy} {s : State} {k : SlotNo} {rest : List SlotNo} {r : CondRecord}
    (ha : s.attention = k :: rest) (hr : s.cond k = some r) : runCollectNext c s = collectRecord c k r s := by
  simp only [runCollectNext, ha, hr]

theorem exec_collectNext_ready {s : State} (h : CommandReady s) :
    exec .collectNext s = .next (runCollectNext (copyAtStart 0x21 s) (s.copied 0x21)) :=
  congrArg _ (writeStart_ready h)

theorem exec_collectNext_empty {s : State} (h : CommandReady s) (he : s.attention = []) :
    exec .collectNext s = .next (s.answered 0x21 .nothingPending []) := by
  rw [exec_collectNext_ready h, runCollectNext_empty (s := s.copied 0x21) he, post_copied]

theorem exec_collectNext_head {s : State} (h : CommandReady s) {k : SlotNo} {rest : List SlotNo} {r : CondRecord}
    (ha : s.attention = k :: rest) (hr : s.cond k = some r) :
    exec .collectNext s = .next
      ((deleteCond k s).answered 0x21 .done (collectHead k (deleteCond k s) ++ recordReport r)) := by
  rw [exec_collectNext_ready h, runCollectNext_head (s := s.copied 0x21) ha hr, collectRecord_answered]

/-- Settles O48: COLLECT by the named slot's record, COLLECT_NEXT by the head of the Attention Queue. -/
theorem collectDeletesRecord : Obligations.CollectDeletesRecord := by
  intro s h
  simp only [← collectHead_deleteCond]
  exact ⟨fun hn => ⟨_, exec_collect_nothing h hn⟩, fun _ hr => exec_collect_record h hr,
    exec_collectNext_empty h, fun _ _ _ ha hr => exec_collectNext_head h ha hr⟩

/-! ## ATTN# -/

/-- Settles O53. -/
theorem attnDrivenByEnabledCauses : Obligations.AttnDrivenByEnabledCauses := by
  intro s
  have queued : (!s.attention.isEmpty) = true ↔ s.attention ≠ [] := by cases s.attention <;> simp
  simp only [attnDriven, Bool.and_eq_true, Bool.or_eq_true, decide_eq_true_eq, queued, or_assoc]

end Sys2Proof.Machine
end

section
/-! PROOFS. Start writes: the row of each spelling, the refusal while EXECUTING, and the lock checks. -/

namespace Sys2Proof.Machine
open Sys2Proof

/-! ## The spellings of a Start write -/

/-- A row with a code of its own is a Start write of that code (R154). -/
theorem exec_of_startCode {c : Instr} {code : Byte} (h : c.startCode = some code) :
    ∃ run, ∀ s, exec c s = .next (writeStart code run s) := by
  cases c <;> cases h <;> exact ⟨_, fun _ => rfl⟩

/-- A byte written to 70h is a Start write, whatever the state of the part (R190, R196). -/
theorem exec_registerWrite_start (code : Byte) (s : State) :
    exec (.registerWrite 0x70 code) s = .next (startByte code s) := by
  refine congrArg Host.Outcome.next ?_
  by_cases running : s.power = .running
  · exact whenRunning_running running
  · exact (whenRunning_not running).trans (writeStart_not running).symm

/-- Every spelling of a Start write goes to `writeStart` with its code (R154, R155). -/
theorem exec_of_start_spelling {c : Instr} {code : Byte}
    (h : c.startCode = some code ∨ c = .badCommand code ∨ c = .startRefused code ∨ c = .registerWrite 0x70 code) :
    ∃ run, ∀ s, exec c s = .next (writeStart code run s) := by
  obtain own | rfl | rfl | rfl := h
  · exact exec_of_startCode own
  · exact ⟨runOf code, fun _ => rfl⟩
  · exact ⟨runOf code, fun _ => rfl⟩
  · exact ⟨runOf code, exec_registerWrite_start code⟩

/-- Settles O34: each spelling is a Start write, and a Start write while EXECUTING is refused. -/
theorem startRefusedWhileExecuting : Obligations.StartRefusedWhileExecuting := by
  intro s c code running executing spelling
  obtain ⟨run, spelled⟩ := exec_of_start_spelling spelling
  rw [spelled, writeStart_executing running executing]

/-! ## LOCK# -/

/-- The command checks LOCK# before anything else (R158, R159). -/
def LockLineFirst (run : CommandCopy → State → State) : Prop :=
  ∀ (c : CommandCopy) (s : State), c.lockAsserted = true → ∃ fields, run c s = post c .lockLine fields s

theorem LockLineFirst.of_guarded {run : CommandCopy → State → State} {report : CommandCopy → State → List Byte}
    {go : CommandCopy → State → State} (h : ∀ c s, run c s = guarded c (report c s) (go c) s) : LockLineFirst run :=
  fun c s asserted => ⟨report c s, (h c s).trans (guarded_asserted asserted)⟩

theorem LockLineFirst.onSlot (go : CommandCopy → SlotNo → State → State) : LockLineFirst (onSlot go) :=
  .of_guarded fun _ _ => rfl

/-- A Start of such a command with LOCK# asserted is refused, damage met at its reads apart (R159). -/
theorem LockLineFirst.writeStart {run : CommandCopy → State → State} (h : LockLineFirst run) {s : State}
    (ready : CommandReady s) (asserted : s.lockLine = true) (code : Byte) (ds : List Damage) :
    ∃ fields, writeStart code (fun c t => run c (damage ds t)) s = (damage ds s).answered code .lockLine fields := by
  obtain ⟨fields, refused⟩ := h (copyAtStart code s) (damage ds (s.copied code)) asserted
  exact ⟨fields, (writeStart_ready ready).trans (refused.trans (post_damage code .lockLine fields ds s))⟩

/-- The guarded commands of Table 8-2. -/
theorem exec_lockLine {s : State} {c : Instr} {code : Byte} (own : c.startCode = some code)
    (listed : guardedCodes.contains code = true) (ready : CommandReady s) (asserted : s.lockLine = true) :
    ∃ fields, exec c s = .next ((damage (foundBy c) s).answered code .lockLine fields) := by
  have refused : ∀ {run : CommandCopy → State → State} (ds : List Damage), LockLineFirst run →
      ∃ fields, (.next (writeStart code (fun c t => run c (damage ds t)) s) : Host.Outcome State Fault Refusal) =
        .next ((damage ds s).answered code .lockLine fields) :=
    fun ds first => (first.writeStart ready asserted code ds).imp fun _ e => congrArg _ e
  cases c with
  | install => cases own; exact refused (run := runInstall) [] (.of_guarded fun _ _ => rfl)
  | succeed ds => cases own; exact refused (run := runSucceed) ds (.of_guarded fun _ _ => rfl)
  | activate ds => cases own; exact refused ds (.onSlot activateSlot)
  | retire ds => cases own; exact refused ds (.onSlot retireNamed)
  | modify ds => cases own; exact refused (run := runModify) ds (.of_guarded fun _ _ => rfl)
  | purge => cases own; exact refused [] (.onSlot purgeNamed)
  | writeRecipe => cases own; exact refused (run := runWriteRecipe) [] (.of_guarded fun _ _ => rfl)
  | clearRecipe => cases own; exact refused (run := runClearRecipe) [] (.of_guarded fun _ _ => rfl)
  | programAnchor => cases own; exact refused (run := runProgramAnchor) [] (.of_guarded fun _ _ => rfl)
  | revokeAnchor => cases own; exact refused (run := runRevokeAnchor) [] (.of_guarded fun _ _ => rfl)
  | setLock => cases own; exact refused (run := runSetLock) [] (.of_guarded fun _ _ => rfl)
  | clearLock => cases own; exact refused (run := runClearLock) [] (.of_guarded fun _ _ => rfl)
  | _ => cases own <;> exact absurd listed (by decide)

/-! ## Lock ranges -/

theorem tagLocked_of_range {s : State} {r : RangeNo} {n : LockRange} (used : s.lockRange r = some n) {t : Tag}
    (low : n.low ≤ t) (high : t ≤ n.high) : tagLocked s t = true := by
  refine List.any_eq_true.2 ⟨some n, ?_, ?_⟩
  · rw [← used, Vector.mem_toList_iff]
    exact Vector.getElem_mem r.isLt
  · simp only [inRange, low, high, decide_true, Bool.and_self]

theorem slotLocked_of_range {s : State} {r : RangeNo} {n : LockRange} (used : s.lockRange r = some n) {k : SlotNo}
    {c : Context} (hc : s.slot k = some c) (low : n.low ≤ c.tag) (high : c.tag ≤ n.high) : slotLocked s k = true := by
  rw [slotLocked, hc]
  exact tagLocked_of_range used low high

section
variable {s : State} (h : Unlocked s) (locked : slotLocked s s.namedSlot = true)
include h locked

/-- A command that names a slot, its Start taken with damage met at its reads, when the slot's tag is locked (R160). -/
theorem onSlot_locked (go : CommandCopy → SlotNo → State → State) (code : Byte) (ds : List Damage) :
    onSlot go (copyAtStart code s) (damage ds (s.copied code)) = (damage ds s).answered code .locked [] := by
  have still : slotLocked (damage ds (s.copied code)) s.namedSlot = true := (damage_slotLocked ..).trans locked
  unfold onSlot
  rw [guarded_released h.released, ← post_damage]
  exact if_pos still

theorem runSucceed_locked (inRange : overridesAt s.commandBlock ≠ none) (ds : List Damage) :
    runSucceed (copyAtStart 0x02 s) (damage ds (s.copied 0x02)) = (damage ds s).answered 0x02 .locked [] := by
  have still : slotLocked (damage ds (s.copied 0x02)) s.namedSlot = true := (damage_slotLocked ..).trans locked
  obtain ⟨o, ho⟩ := Option.ne_none_iff_exists'.1 inRange
  unfold runSucceed
  rw [guarded_released h.released, copyAtStart_block, ho, ← post_damage]
  exact if_pos still

theorem runModify_locked (inRange : modifyChangesAt s.commandBlock ≠ none) (ds : List Damage) :
    runModify (copyAtStart 0x05 s) (damage ds (s.copied 0x05)) = (damage ds s).answered 0x05 .locked [] := by
  have still : slotLocked (damage ds (s.copied 0x05)) s.namedSlot = true := (damage_slotLocked ..).trans locked
  obtain ⟨ch, hch⟩ := Option.ne_none_iff_exists'.1 inRange
  unfold runModify
  rw [guarded_released h.released, copyAtStart_block, hch, ← post_damage]
  exact if_pos still

end

theorem runInstall_locked {s : State} (h : Unlocked s) {x : NewContext} {standby : Bool}
    (fields : installAt s.commandBlock = some (x, standby)) (locked : tagLocked s x.tag = true) :
    runInstall (copyAtStart 0x01 s) (s.copied 0x01) = s.answered 0x01 .locked (bytesAt s.commandBlock 0x00 2) := by
  unfold runInstall
  rw [guarded_released h.released, copyAtStart_block, fields]
  exact (if_pos (show tagLocked (s.copied 0x01) x.tag = true from locked)).trans (post_answered rfl rfl)

/-- Settles O35. -/
theorem lockChecksRefuse : Obligations.LockChecksRefuse := by
  refine ⟨fun s c code => exec_lockLine, fun s r n ds h used =>
    ⟨fun c hc low high => ?_, fun x standby fields low high => ?_⟩⟩
  · have locked := slotLocked_of_range used hc low high
    have start : ∀ {code : Byte} {run : CommandCopy → State → State} {t : State},
        run (copyAtStart code s) (s.copied code) = t →
        (.next (writeStart code run s) : Host.Outcome State Fault Refusal) = .next t :=
      fun e => congrArg _ ((writeStart_ready h.toCommandReady).trans e)
    exact ⟨start (onSlot_locked h locked activateSlot 0x03 ds), start (onSlot_locked h locked retireNamed 0x04 ds),
      start (onSlot_locked h locked purgeNamed 0x06 []),
      fun overrides => start (runSucceed_locked h locked overrides ds),
      fun changes => start (runModify_locked h locked changes ds)⟩
  · exact congrArg _ ((writeStart_ready h.toCommandReady).trans
      (runInstall_locked h fields (tagLocked_of_range used low high)))

end Sys2Proof.Machine
end

section
/-! PROOFS. What a byte written to Start runs, and WRITE transactions bit by bit. -/

namespace Sys2Proof.Machine
open Sys2Proof

/-! ## Codes and their rows -/

theorem startRow_startCode : ∀ code ∈ commandCodes, (startRow code).startCode = some code := by decide

/-- A code that names no command (R158). -/
theorem runOf_of_unnamed {code : Byte} (h : code ∉ commandCodes) : runOf code = runBadCommand := by
  simp only [commandCodes, List.mem_cons, List.not_mem_nil, or_false, not_or] at h
  simp only [runOf, h, if_false]

theorem exec_badCommand_unnamed {s : State} {code : Byte} (h : code ∉ commandCodes) (ready : CommandReady s) :
    exec (.badCommand code) s = .next (s.answered code .badCommand []) := by
  refine congrArg Host.Outcome.next ?_
  rw [startByte, runOf_of_unnamed h, writeStart_ready ready]
  exact post_answered rfl rfl

/-! ## WRITE transactions -/

section
variable {s : State} (running : s.power = .running)
include running

/-- CS# falling, A5h and an address byte begin a WRITE at that address (R189). -/
theorem lines_write (high : s.port = .deselected) (addr : Byte) :
    s.lines (.csFall :: (bytePins 0xA5 ++ bytePins addr)) = { s with port := .writing addr [] } := by
  have instruction : ({ s with port := .instruction [] } : State).lines (bytePins 0xA5) =
      { s with port := .address false [] } := lines_instruction running 0xA5
  rw [← List.singleton_append, lines_append, lines_csFall running high, lines_append, instruction]
  exact lines_writeAddress running addr

/-- Until its eighth bit a data byte is only gathered (R189). -/
theorem sckRise_writing_short {addr : Byte} {bits : List Bool} (short : bits.length < 7) (x : Bool) :
    serialEvent (.sckRise x) { s with port := .writing addr bits } =
      { s with port := .writing addr (bits ++ [x]) } := by
  refine (whenRunning_running (s := { s with port := .writing addr bits }) running).trans ?_
  exact if_pos short

/-- At its eighth bit a data byte runs the row of its location (R189, R190). -/
theorem sckRise_writing_full {addr : Byte} {bits : List Bool} (full : bits.length = 7) (x : Bool) :
    ∃ t, exec (writeRow addr (byteOfBits (bits ++ [x]))) { s with port := .writing addr bits } = .next t ∧
      serialEvent (.sckRise x) { s with port := .writing addr bits } = { t with port := .writing (addr + 1) [] } := by
  refine ⟨_, exec_writeRow addr _ (s := { s with port := .writing addr bits }) running, ?_⟩
  refine (whenRunning_running (s := { s with port := .writing addr bits }) running).trans ?_
  exact if_neg full.not_lt

theorem sckFall_writing (addr : Byte) (bits : List Bool) :
    serialEvent .sckFall { s with port := .writing addr bits } = { s with port := .writing addr bits } :=
  whenRunning_running (s := { s with port := .writing addr bits }) running

end

/-- CS# rising ends a transaction begun with CS# high (R189). -/
theorem csRise_of_deselected {s : State} (high : s.port = .deselected) (p : Port) :
    serialEvent .csRise { s with port := p } = s := by
  rw [serialEvent, ← high]

/-- Settles O36. -/
theorem startByteRunsItsCommand : Obligations.StartByteRunsItsCommand := by
  refine ⟨fun s code => ⟨?_, ?_, fun named => ?_, fun unnamed ready => ?_⟩, fun s running high =>
    ⟨lines_write running high, fun addr bits x _ => ⟨fun short => sckRise_writing_short running short x,
      fun full => sckRise_writing_full running full x, sckFall_writing running addr bits, csRise_of_deselected high _⟩⟩⟩
  · rw [exec_startRow, exec_registerWrite_start]
  · rw [exec_startRow]
    rfl
  · exact startRow_startCode code (List.contains_iff_mem.1 named)
  · exact exec_badCommand_unnamed (fun mem => by simp [mem] at unnamed) ready

end Sys2Proof.Machine
end

section
/-! PROOFS. The Register Window: bytes written, what each location holds, and READ transactions bit by bit. -/

namespace Sys2Proof.Machine
open Sys2Proof

/-! ## Bytes written -/

/-- An address in a block of 96 locations, counted from its first (Table 10-2). -/
theorem windowAddr_toNat {base : Nat} (low : base ≤ 0x80) (i : Fin 96) :
    (BitVec.ofNat 8 (base + i.val)).toNat = base + i.val := by
  rw [BitVec.toNat_ofNat]
  omega

theorem setIfInBounds_fin (block : Block) (i : Fin 96) (b : Byte) :
    block.setIfInBounds i.val b = block.set i b := by
  refine Vector.ext fun j hj => ?_
  rw [Vector.getElem_setIfInBounds, Vector.getElem_set]

/-- A byte written to 10h to 6Fh (R190). -/
theorem writeWindow_block (i : Fin 96) (b : Byte) (s : State) :
    writeWindow (BitVec.ofNat 8 (0x10 + i.val)) b s = { s with commandBlock := s.commandBlock.set i b } := by
  have offset := windowAddr_toNat (base := 0x10) (by decide) i
  generalize BitVec.ofNat 8 (0x10 + i.val) = addr at offset
  have other : ∀ x : Byte, x.toNat < 0x10 ∨ 0x6F < x.toNat → addr ≠ x := by
    rintro x out rfl
    omega
  have inside : 0x10 ≤ addr ∧ addr ≤ 0x6F := by
    simp only [BitVec.le_def, BitVec.reduceToNat]
    omega
  unfold writeWindow
  rw [if_neg (other 0x05 (by decide)), if_neg (other 0x06 (by decide)), if_neg (other 0x70 (by decide)), if_pos inside,
    offset, Nat.add_sub_cancel_left, writeBlock, setIfInBounds_fin]

/-- A location that takes no byte (R190). -/
theorem writeWindow_ignored {addr : Byte} (flags : addr ≠ 0x05) (mask : addr ≠ 0x06) (start : addr ≠ 0x70)
    (out : addr < 0x10 ∨ 0x6F < addr) (b : Byte) (s : State) : writeWindow addr b s = s := by
  have outside : ¬(0x10 ≤ addr ∧ addr ≤ 0x6F) := by
    simp only [BitVec.le_def, BitVec.lt_def] at out ⊢
    omega
  simp only [writeWindow, flags, mask, start, outside, if_false]

/-! ## What the locations hold -/

/-- Beyond the seven locations with an item of their own come the two blocks (Table 10-2). -/
theorem windowByte_above {addr : Byte} (h : 0x06 < addr) (s : State) :
    windowByte addr s =
      if 0x10 ≤ addr ∧ addr ≤ 0x6F then byteAt s.commandBlock (addr.toNat - 0x10)
      else if 0x80 ≤ addr ∧ addr ≤ 0xDF then byteAt s.resultBlock (addr.toNat - 0x80)
      else 0x00 := by
  have other : ∀ x : Byte, x ≤ 0x06 → addr ≠ x := by
    rintro x low rfl
    exact absurd h (BitVec.not_lt.2 low)
  unfold windowByte
  rw [if_neg (other 0x00 (by decide)), if_neg (other 0x01 (by decide)), if_neg (other 0x02 (by decide)),
    if_neg (other 0x03 (by decide)), if_neg (other 0x04 (by decide)), if_neg (other 0x05 (by decide)),
    if_neg (other 0x06 (by decide))]

theorem byteAt_fin (b : Block) (i : Fin 96) : byteAt b i.val = b[i] := by simp [byteAt]

theorem windowByte_command (i : Fin 96) (s : State) :
    windowByte (BitVec.ofNat 8 (0x10 + i.val)) s = s.commandBlock[i] := by
  have offset := windowAddr_toNat (base := 0x10) (by decide) i
  generalize BitVec.ofNat 8 (0x10 + i.val) = addr at offset
  have above : 0x06 < addr := by simp only [BitVec.lt_def, BitVec.reduceToNat]; omega
  have inside : 0x10 ≤ addr ∧ addr ≤ 0x6F := by simp only [BitVec.le_def, BitVec.reduceToNat]; omega
  rw [windowByte_above above, if_pos inside, offset, Nat.add_sub_cancel_left, byteAt_fin]

theorem windowByte_result (i : Fin 96) (s : State) :
    windowByte (BitVec.ofNat 8 (0x80 + i.val)) s = s.resultBlock[i] := by
  have offset := windowAddr_toNat (base := 0x80) (by decide) i
  generalize BitVec.ofNat 8 (0x80 + i.val) = addr at offset
  have above : 0x06 < addr := by simp only [BitVec.lt_def, BitVec.reduceToNat]; omega
  have outside : ¬(0x10 ≤ addr ∧ addr ≤ 0x6F) := by simp only [BitVec.le_def, BitVec.reduceToNat]; omega
  have inside : 0x80 ≤ addr ∧ addr ≤ 0xDF := by simp only [BitVec.le_def, BitVec.reduceToNat]; omega
  rw [windowByte_above above, if_neg outside, if_pos inside, offset, Nat.add_sub_cancel_left, byteAt_fin]

/-- A reserved location holds 00h (Table 10-2). -/
theorem windowByte_reserved {addr : Byte}
    (h : 0x06 < addr ∧ addr < 0x10 ∨ 0x6F < addr ∧ addr < 0x80 ∨ 0xDF < addr) (s : State) : windowByte addr s = 0 := by
  simp only [BitVec.lt_def, BitVec.reduceToNat] at h
  have above : 0x06 < addr := by simp only [BitVec.lt_def, BitVec.reduceToNat]; omega
  have noCommand : ¬(0x10 ≤ addr ∧ addr ≤ 0x6F) := by simp only [BitVec.le_def, BitVec.reduceToNat]; omega
  have noResult : ¬(0x80 ≤ addr ∧ addr ≤ 0xDF) := by simp only [BitVec.le_def, BitVec.reduceToNat]; omega
  rw [windowByte_above above, if_neg noCommand, if_neg noResult]

/-- 03h and 04h hold the length of the Attention Queue, high byte first (R191, R195). -/
theorem windowByte_attention {s : State} (bound : s.attention.length ≤ 256) :
    (windowByte 0x03 s).toNat * 256 + (windowByte 0x04 s).toNat = s.attention.length := by
  show (BitVec.ofNat 8 (s.attention.length / 256)).toNat * 256 + (BitVec.ofNat 8 s.attention.length).toNat = _
  simp only [BitVec.toNat_ofNat]
  omega

/-- The four low bits of a location, bit 0 first in the list (Table 10-3). -/
theorem ofBoolListLE_nibble : ∀ a b c d : Bool,
    BitVec.ofBoolListLE [a, b, c, d, false, false, false, false] =
      (0 : BitVec 4) ++ BitVec.ofBool d ++ BitVec.ofBool c ++ BitVec.ofBool b ++ BitVec.ofBool a := by decide

theorem deviceStatus_eq (s : State) :
    deviceStatus s = (0 : BitVec 4) ++ BitVec.ofBool s.lockLine ++ BitVec.ofBool (decide (s.laneB.state = .online))
      ++ BitVec.ofBool (decide (s.laneA.state = .online)) ++ BitVec.ofBool (decide (s.unit ≠ .idle)) := by
  have executing : (s.unit != .idle) = decide (s.unit ≠ .idle) := by simp [bne, beq_eq_decide]
  rw [← executing, ← beq_eq_decide, ← beq_eq_decide]
  exact ofBoolListLE_nibble _ _ _ _

theorem ofBoolListLE_flags : ∀ a b c : Bool,
    BitVec.ofBoolListLE [a, b, c, false, false, false, false, false] =
      (0 : BitVec 5) ++ BitVec.ofBool c ++ BitVec.ofBool b ++ BitVec.ofBool a := by decide

/-! ## READ transactions -/

/-- One pulse of SCK, SDI at the given level. -/
def sckPulse (sdi : Bool) : List SerialEvent := [.sckRise sdi, .sckFall]

/-- The READ once the first bit of a byte is driven (R189). -/
def Reading.begin (r : Reading) (byte : Byte) (s : State) : Reading :=
  ⟨r.addr + 1, r.result, if r.addr = 0x03 then some (windowByte 0x04 s) else none, (bitsOfByte byte).tail,
    some (byte.getLsbD 7)⟩

/-- With a byte driven whole, the next one is read and its first bit driven (R189). -/
theorem Reading.drive_first {r : Reading} {s : State} (empty : r.shift = []) : r.drive s = r.begin (r.shown s) s := by
  obtain ⟨addr, result, low, shift, sdo⟩ := r
  cases empty
  rfl

theorem Reading.drive_next {r : Reading} {s : State} {b : Bool} {rest : List Bool} (more : r.shift = b :: rest) :
    r.drive s = ⟨r.addr, r.result, r.queueLow, rest, some b⟩ := by
  obtain ⟨addr, result, low, shift, sdo⟩ := r
  cases more
  rfl

/-- The byte read next: from the captured Result Block, from its location, or the captured low byte (R156, R189). -/
theorem Reading.shown_of_cases {r : Reading} {s : State} {byte : Byte}
    (h : 0x80 ≤ r.addr ∧ r.addr ≤ 0xDF ∧ byte = byteAt r.result (r.addr.toNat - 0x80) ∨
      (r.addr < 0x80 ∨ 0xDF < r.addr) ∧ (r.addr ≠ 0x04 ∨ r.queueLow = none) ∧ byte = windowByte r.addr s ∨
      r.addr = 0x04 ∧ r.queueLow = some byte) : r.shown s = byte := by
  unfold Reading.shown
  obtain ⟨low, high, byte_eq⟩ | ⟨out, free, byte_eq⟩ | ⟨addr, captured⟩ := h
  · rw [byte_eq, if_pos ⟨low, high⟩]
  · rw [byte_eq, if_neg fun inside => out.elim (BitVec.not_lt.2 inside.1) (BitVec.not_lt.2 inside.2)]
    obtain other | uncaptured := free
    · exact if_neg other
    · rw [uncaptured]
      split
      · rename_i addr
        rw [addr]
        rfl
      · rfl
  · rw [addr, captured]
    rfl

/-- What a READ has captured is what stands now: nothing has happened between its bits (R156, R189). -/
structure Reading.Fresh (r : Reading) (s : State) : Prop where
  result : r.result = s.resultBlock
  queueLow : r.queueLow = none ∨ r.queueLow = some (windowByte 0x04 s)

theorem Reading.Fresh.shown {r : Reading} {s : State} (h : r.Fresh s) : r.shown s = windowByte r.addr s := by
  obtain ⟨addr, result, low, shift, sdo⟩ := r
  obtain ⟨rfl, captured⟩ := h
  exact shown_fresh s addr low shift sdo captured

theorem Reading.Fresh.begin {r : Reading} {s : State} (h : r.Fresh s) (byte : Byte) : (r.begin byte s).Fresh s where
  result := h.result
  queueLow := by
    show (if r.addr = 0x03 then _ else _) = none ∨ (if r.addr = 0x03 then _ else _) = _
    split
    · exact .inr rfl
    · exact .inl rfl

theorem Reading.Fresh.captured (addr : Byte) (s : State) : Reading.Fresh ⟨addr, s.resultBlock, none, [], none⟩ s :=
  ⟨rfl, .inl rfl⟩

theorem windowBytes_succ (addr : Byte) (n : Nat) (s : State) :
    windowBytes addr (n + 1) s = windowByte addr s :: windowBytes (addr + 1) n s := by
  have step : ∀ i : Nat, addr + BitVec.ofNat 8 (i + 1) = addr + 1 + BitVec.ofNat 8 i := fun i => by
    rw [BitVec.ofNat_add, BitVec.add_comm (BitVec.ofNat 8 i), ← BitVec.add_assoc]
    rfl
  rw [windowBytes, List.range_succ_eq_map, List.map_cons, List.map_map]
  refine congrArg₂ List.cons ?_ (List.map_congr_left fun i _ => ?_)
  · rw [BitVec.add_zero]
  · rw [Function.comp_apply, step]

theorem State.eq_of_port {s : State} {p : Port} (h : s.port = p) : s = { s with port := p } := by rw [← h]

section
variable {s : State} (running : s.power = .running)
include running

/-- CS# falling, 5Ah and an address byte up to its eighth bit begin a READ with the Result Block captured (R156,
R189). -/
theorem lines_read (high : s.port = .deselected) (addr : Byte) :
    s.lines (.csFall :: (bytePins 0x5A ++ bytePins addr).dropLast) =
      { s with port := .reading ⟨addr, s.resultBlock, none, [], none⟩ } := by
  have instruction : ({ s with port := .instruction [] } : State).lines (bytePins 0x5A) =
      { s with port := .address true [] } := lines_instruction running 0x5A
  have last : (bytePins 0x5A ++ bytePins addr).dropLast = bytePins 0x5A ++ (bytePins addr).dropLast :=
    List.dropLast_append_of_ne_nil (by simp [bytePins, bitsOfByte])
  rw [last, ← List.singleton_append, lines_append, lines_csFall running high, lines_append, instruction]
  exact lines_readAddress running addr

/-- SCK falling after the eighth bit of the address reads the first byte (R189). -/
theorem lines_read_begun (high : s.port = .deselected) (addr : Byte) :
    s.lines (.csFall :: (bytePins 0x5A ++ bytePins addr)) =
      { s with port := .reading (Reading.begin ⟨addr, s.resultBlock, none, [], none⟩ (windowByte addr s) s) } := by
  have last : (SerialEvent.csFall :: (bytePins 0x5A ++ bytePins addr)) =
      (.csFall :: (bytePins 0x5A ++ bytePins addr).dropLast) ++ [.sckFall] := rfl
  rw [last, lines_append, lines_read running high]
  refine (sckFall_reading running _).trans ?_
  rw [Reading.drive_first rfl]
  congr 2
  exact congrArg (Reading.begin _ · _) (Reading.Fresh.captured addr s).shown

/-- SCK falling drives the next bit of a READ (R189). -/
theorem sckFall_at {r : Reading} (port : s.port = .reading r) :
    serialEvent .sckFall s = { s with port := .reading (r.drive s) } := by
  rw [State.eq_of_port port]
  exact sckFall_reading running r

/-- SCK rising samples SDO and changes nothing in a READ; SCK falling drives the next bit (R189). -/
theorem samples_pulse (sdi : Bool) (es : List SerialEvent) (r : Reading) :
    samples (sckPulse sdi ++ es) { s with port := .reading r } =
      r.sdo :: samples es { s with port := .reading (r.drive s) } := by
  show _ :: samples es (serialEvent .sckFall (serialEvent (.sckRise sdi) _)) = _
  rw [sckRise_reading running, sckFall_reading running]
  rfl

/-- The bits still to be driven of a byte come out one a pulse, and after them the next byte is read (R189). -/
theorem samples_byte (sdi : Bool) (es : List SerialEvent) (bits : List Bool) (r : Reading) (b : Bool)
    (shift : r.shift = bits) (driven : r.sdo = some b) :
    samples ((List.replicate (bits.length + 1) (sckPulse sdi)).flatten ++ es) { s with port := .reading r } =
      (b :: bits).map some ++ samples es { s with port := .reading (r.begin (r.shown s) s) } := by
  induction bits generalizing r b with
  | nil =>
    show samples (sckPulse sdi ++ es) _ = _
    rw [samples_pulse running, driven, Reading.drive_first shift]
    rfl
  | cons x bits ih =>
    rw [List.length_cons, List.replicate_succ, List.flatten_cons, List.append_assoc, samples_pulse running, driven,
      Reading.drive_next shift, ih ⟨r.addr, r.result, r.queueLow, bits, some x⟩ x rfl rfl]
    rfl

/-- With nothing between its bits, a READ returns what its locations hold (R189). -/
theorem samples_read (sdi : Bool) (n : Nat) (r : Reading) (fresh : r.Fresh s) :
    samples (List.replicate (8 * n) (sckPulse sdi)).flatten
        { s with port := .reading (r.begin (windowByte r.addr s) s) } =
      ((windowBytes r.addr n s).flatMap bitsOfByte).map some := by
  induction n generalizing r with
  | zero => rfl
  | succ n ih =>
    have next := fresh.begin (windowByte r.addr s)
    have byte := samples_byte running sdi (List.replicate (8 * n) (sckPulse sdi)).flatten
      (bitsOfByte (windowByte r.addr s)).tail (r.begin (windowByte r.addr s) s) _ rfl rfl
    rw [next.shown, ih _ next, ← List.flatten_append, ← List.replicate_add] at byte
    rw [windowBytes_succ, List.flatMap_cons, List.map_append, Nat.mul_succ, Nat.add_comm]
    exact byte

end

/-- Settles O52: bytes written, locations, a READ left to itself, and one event of a READ in its data phase. -/
theorem windowBytesWritten : Obligations.WindowBytesWritten := by
  refine ⟨fun s b running => ?_, fun s => ?_, fun s sdi addr running high => ?_, fun s r running port => ?_⟩
  · have write : ∀ {f : State → State} {t : State}, f s = t →
        (.next (whenRunning f s) : Host.Outcome State Fault Refusal) = .next t :=
      fun e => congrArg _ ((whenRunning_running running).trans e)
    exact ⟨write rfl, write rfl, fun i => write (writeWindow_block i b s),
      fun _ flags mask start out => write (writeWindow_ignored flags mask start out b s)⟩
  · exact ⟨rfl, rfl, deviceStatus_eq s, windowByte_attention, ofBoolListLE_flags _ _ _, ofBoolListLE_nibble _ _ _ _,
      fun i => ⟨windowByte_command i s, windowByte_result i s⟩, fun _ reserved => windowByte_reserved reserved s⟩
  · refine ⟨lines_read running high addr, fun n => ?_⟩
    rw [lines_read_begun running high]
    exact samples_read running sdi n _ (Reading.Fresh.captured addr s)
  · refine ⟨fun x => ?_, fun b rest more => ?_, fun empty byte shown => ?_⟩
    · rw [State.eq_of_port port]
      exact sckRise_reading running r x
    · rw [sckFall_at running port, Reading.drive_next more]
    · rw [sckFall_at running port, Reading.drive_first empty, Reading.shown_of_cases shown]
      rfl

end Sys2Proof.Machine
end

section
/-! PROOFS. What no command touches: the commands waiting, the serial line and the transaction in progress. -/

namespace Sys2Proof.Machine
open Sys2Proof

/-! ## What lies outside the part's blocks -/

/-- The commands waiting behind the one executed, the events waiting on the serial line, and the transaction of the
Management Port (assumption 22). -/
structure Outside where
  pending : List Instr
  serial : List SerialEvent
  port : Port

def State.outside (s : State) : Outside := ⟨s.pending, s.serial, s.port⟩

theorem Aside.outside {s t : State} (a : Aside s t) : t.outside = s.outside := by
  rw [a.frame]; rfl

theorem Quiet.outside {s t : State} (q : Quiet s t) : t.outside = s.outside := by
  cases q with
  | slots frame _ => rw [frame]; rfl
  | raise r k => rw [raiseOn_frame]; rfl
  | ending e k => rfl
  | delete k => rfl
  | retire => rw [retireSlot_frame]; rfl
  | aside a => exact a.outside

/-- A run of changes leaves what lies outside. -/
theorem Run.outside {s t : State} (r : Run s t) : t.outside = s.outside := by
  induction r with
  | refl => rfl
  | tail _ q ih => exact q.outside.trans ih

theorem Change.outside {s t : State} (c : Change s t) : t.outside = s.outside := by
  obtain r | ⟨u, v, r, ⟨k, x, -, -, rfl⟩, r'⟩ := c
  · exact r.outside
  · rw [r'.outside, ← r.outside, swapRoles_frame]
    rfl

theorem setLane_outside (s : State) (l : LaneId) (x : Lane) : (s.setLane l x).outside = s.outside := by
  cases l <;> rfl

/-! ## Frame In -/

theorem refuseFrame_outside (w : FrameWord) (h : JobHeader) (v : Verdict) (k : Option SlotNo) (s : State) :
    (refuseFrame w h v k s).outside = s.outside := by
  cases k <;> rfl

theorem reserve_outside (dir : Direction) (bytes : Nat) (k : SlotNo) (s : State) :
    (reserve dir bytes k s).outside = s.outside := by
  cases dir with
  | toAdmit => rfl
  | toProtect =>
    unfold reserve testLifeLow
    dsimp only
    split
    · exact (Run.raise ..).outside
    · rfl

theorem dispatchToLane_outside (w : FrameWord) (j : Job) (bytes : Nat) (s : State) :
    (dispatchToLane w j bytes s).outside = s.outside := by
  have placed : ∀ l,
      (placeJob j l (countInFlight j.slot j.recipe (reserve j.dir bytes j.slot s))).outside = s.outside :=
    fun l => (setLane_outside ..).trans (reserve_outside ..)
  unfold dispatchToLane
  dsimp only
  split
  · exact placed _
  · exact placed _

theorem spentSlot_outside (atRoll : List Damage) (h : JobHeader) (bytes : Nat) (k : SlotNo) (s : State) :
    (spentSlot atRoll h bytes k s).1.outside = s.outside :=
  (ChecksDone.spentSlot (dir := .toProtect) atRoll h k).change.outside

theorem checksFromLookup_outside (atRoll : List Damage) (h : JobHeader) (bytes : Nat) (s : State) :
    (checksFromLookup atRoll h bytes s).1.outside = s.outside := by
  unfold checksFromLookup
  split
  · rfl
  · rename_i k _
    have checked := (Run.recordCheck .dispatch none k s).outside
    unfold checksUnder
    split
    · exact checked
    · split
      · exact checked
      · split
        · exact (spentSlot_outside ..).trans checked
        · exact checked

/-- The taking of a Job Header (R72). -/
theorem takeJobHeader_outside (atRoll : List Damage) (w0 : Word) (w : FrameWord) (s : State) :
    (takeJobHeader atRoll w0 w s).outside = s.outside := by
  unfold takeJobHeader
  dsimp only
  split
  · exact refuseFrame_outside ..
  · split
    · exact refuseFrame_outside ..
    · split
      · exact refuseFrame_outside ..
      · have checked := checksFromLookup_outside atRoll (jobHeaderOf w0 w.data)
        unfold settleDispatch
        split
        · exact (refuseFrame_outside ..).trans (checked ..)
        · exact (dispatchToLane_outside ..).trans (checked ..)

theorem frameInWord_outside (atRoll : List Damage) (w : FrameWord) (s : State) :
    (frameInWord atRoll w s).outside = s.outside := by
  unfold frameInWord
  split
  · split <;> rfl
  · split
    · unfold wordInJobWord
      split
      · rfl
      · exact takeJobHeader_outside ..
    · rfl
  · unfold wordInStreaming
    split
    · rfl
    · exact (Run.streamWord ..).outside
  · unfold wordInDiscarding
    split <;> rfl

/-! ## Release -/

theorem countReleased_outside (k : SlotNo) (n : RecipeNo) (s : State) :
    (countReleased k n s).outside = s.outside := by
  unfold countReleased freeIfRetired
  split
  · split <;> rfl
  · rfl

theorem releaseHead_outside (atRead atRoll : List Damage) (s : State) :
    (releaseHead atRead atRoll s).outside = s.outside := by
  unfold releaseHead
  split
  · rename_i e rest _ _
    split
    · cases e with
      | refused e => rfl
      | lane e =>
        have decided := (Change.decideRelease atRead atRoll e { s with queue := rest }).outside
        exact (Aside.sendLane ..).outside.trans
          ((countReleased_outside ..).trans ((Run.endingAtRelease ..).outside.trans decided))
    · rfl
  · rfl

/-! ## Commands -/

section
variable {s : State} {c : CommandCopy}

theorem guarded_outside {report : List Byte} {go : State → State} (k : (go s).outside = s.outside) :
    (guarded c report go s).outside = s.outside := by
  unfold guarded
  split
  · rfl
  · exact k

theorem onSlot_outside {go : CommandCopy → SlotNo → State → State} (k : ∀ j, (go c j s).outside = s.outside) :
    (onSlot go c s).outside = s.outside := by
  refine guarded_outside ?_
  split
  · rfl
  · exact k _

theorem takeSlot_outside (report : List Byte) (n : NewContext) (standby : Bool) (key : AnchorKey)
    (named : Option SlotNo) : (takeSlot c report n standby key named s).outside = s.outside := by
  unfold takeSlot
  split <;> rfl

theorem runInstall_outside : (runInstall c s).outside = s.outside := by
  refine guarded_outside ?_
  split
  · rfl
  · unfold installChecked
    split
    · rfl
    · split
      · rfl
      · split
        · rfl
        · exact takeSlot_outside ..

theorem succeedActive_outside (o : Overrides) (k : SlotNo) : (succeedActive c o k s).outside = s.outside := by
  unfold succeedActive
  split
  · split
    · unfold succeedFrom
      dsimp only
      split
      · split
        · rfl
        · split
          · rfl
          · exact takeSlot_outside ..
      · rfl
    · rfl
  · rfl

theorem runSucceed_outside : (runSucceed c s).outside = s.outside := by
  refine guarded_outside ?_
  split
  · rfl
  · split
    · rfl
    · split
      · exact (succeedActive_outside ..).trans (Run.recordCheck ..).outside
      · rfl

theorem completeUnwrap_outside : (completeUnwrap s).outside = s.outside := by
  unfold completeUnwrap
  split
  · split
    · unfold finishUnwrap
      split
      · rfl
      · unfold recheckAndBind
        split <;> rfl
    · rfl
  · rfl

theorem runActivate_outside : (runActivate c s).outside = s.outside := by
  refine onSlot_outside fun k => ?_
  unfold activateSlot activateDone
  split
  · split <;> exact (Change.rollOver .command none k s).outside
  · rfl

theorem retireChecked_outside (k : SlotNo) : (retireChecked c k s).outside = s.outside := by
  unfold retireChecked
  split
  · rw [retireSlot_frame]; rfl
  · rfl

theorem runRetire_outside : (runRetire c s).outside = s.outside := by
  refine onSlot_outside fun k => ?_
  have checked := (retireChecked_outside (c := c) k).trans (Run.recordCheck .command none k s).outside
  unfold retireNamed
  split
  · rfl
  · split
    · exact checked
    · exact checked
    · exact checked
    all_goals rfl

theorem modifyChecked_outside (ch : SettingChanges) (k : SlotNo) : (modifyChecked c ch k s).outside = s.outside := by
  unfold modifyChecked
  split
  · split
    · split
      · exact (Run.budgetTest ..).outside
      · rfl
    · rfl
  · rfl

theorem runModify_outside : (runModify c s).outside = s.outside := by
  refine guarded_outside ?_
  dsimp only
  split
  · rfl
  · split
    · rfl
    · split
      · exact (modifyChecked_outside ..).trans (Run.recordCheck ..).outside
      · rfl

theorem runPurge_outside : (runPurge c s).outside = s.outside := by
  refine onSlot_outside fun k => ?_
  unfold purgeNamed
  split
  · split
    · split <;> rfl
    · rfl
  · rfl

theorem runQuery_outside : (runQuery c s).outside = s.outside := by
  unfold runQuery querySlot
  split <;> exact (Run.recordCheck .command none (slotAt c.block 0x00) s).outside

theorem runQueryTag_outside : (runQueryTag c s).outside = s.outside := by
  unfold runQueryTag
  split
  · rfl
  · split <;> rfl

theorem runSoftReset_outside : (runSoftReset c s).outside = s.outside :=
  (Run.framesLost (lostSlots s.queue (softResetSlots s)) (softResetBlocks s)).1.outside

theorem runWriteRecipe_outside : (runWriteRecipe c s).outside = s.outside := by
  refine guarded_outside ?_
  split <;> rfl

theorem runClearRecipe_outside : (runClearRecipe c s).outside = s.outside := by
  refine guarded_outside ?_
  split
  · split <;> rfl
  · rfl

theorem runReadRecipe_outside : (runReadRecipe c s).outside = s.outside := by
  unfold runReadRecipe
  split <;> rfl

theorem runAbortLanes_outside : (runAbortLanes c s).outside = s.outside := by
  rw [runAbortLanes_eq, abortJobs, foldl_applyEnding_frame]
  rfl

theorem runRestoreLane_outside : (runRestoreLane c s).outside = s.outside := by
  unfold runRestoreLane
  split
  · rfl
  · split
    · rfl
    · exact setLane_outside ..

theorem runCollect_outside : (runCollect c s).outside = s.outside := by
  unfold runCollect
  split <;> rfl

theorem runCollectNext_outside : (runCollectNext c s).outside = s.outside := by
  unfold runCollectNext
  split
  · rfl
  · split <;> rfl

theorem runProgramAnchor_outside : (runProgramAnchor c s).outside = s.outside := by
  refine guarded_outside ?_
  split
  · rfl
  · split
    · rfl
    · unfold programStart
      split <;> rfl

theorem runRevokeAnchor_outside : (runRevokeAnchor c s).outside = s.outside := by
  refine guarded_outside ?_
  split
  · rfl
  · unfold revokeStart
    split <;> rfl

theorem runSetLock_outside : (runSetLock c s).outside = s.outside := by
  refine guarded_outside ?_
  split
  · split <;> rfl
  · rfl

theorem runClearLock_outside : (runClearLock c s).outside = s.outside := by
  refine guarded_outside ?_
  split
  · split <;> rfl
  · rfl

theorem completeProgram_outside (readBack : Option AnchorKey) :
    (completeProgram readBack s).outside = s.outside := by
  unfold completeProgram
  split
  · unfold finishProgram
    split <;> rfl
  · rfl

theorem completeRevoke_outside (readBack : AnchorState) : (completeRevoke readBack s).outside = s.outside := by
  unfold completeRevoke
  split
  · unfold finishRevoke
    split <;> rfl
  · rfl

/-- The command that a byte written to Start names (Table 10-8). -/
theorem runOf_outside (code : Byte) : (runOf code c s).outside = s.outside := by
  have pick : ∀ {x : Byte} {f g : CommandCopy → State → State}, (f c s).outside = s.outside →
      (g c s).outside = s.outside → ((if code = x then f else g) c s).outside = s.outside := by
    intro x f g hf hg
    split
    · exact hf
    · exact hg
  exact pick runInstall_outside <| pick runSucceed_outside <| pick runActivate_outside <| pick runRetire_outside <|
    pick runModify_outside <| pick runPurge_outside <| pick runQuery_outside <| pick runQueryTag_outside <|
    pick runSoftReset_outside <| pick runWriteRecipe_outside <| pick runClearRecipe_outside <|
    pick runReadRecipe_outside <| pick runAbortLanes_outside <| pick runRestoreLane_outside <|
    pick runCollect_outside <| pick runCollectNext_outside <| pick runProgramAnchor_outside <|
    pick runRevokeAnchor_outside <| pick rfl <| pick runSetLock_outside <| pick runClearLock_outside <| pick rfl rfl

theorem writeStart_outside {code : Byte} {run : CommandCopy → State → State}
    (k : ∀ c u, (run c u).outside = u.outside) : (writeStart code run s).outside = s.outside := by
  unfold writeStart
  split
  · rfl
  · split
    · rfl
    · exact k ..

/-- A byte written to a location of the Register Window (R190). -/
theorem writeWindow_outside (addr x : Byte) : (writeWindow addr x s).outside = s.outside := by
  unfold writeWindow
  split
  · rfl
  · split
    · rfl
    · split
      · exact writeStart_outside fun _ _ => runOf_outside x
      · split <;> rfl

theorem whenRunning_outside {f : State → State} (k : (f s).outside = s.outside) :
    (whenRunning f s).outside = s.outside := by
  unfold whenRunning
  split
  · exact k
  · rfl

end

/-! ## Every row -/

/-- What a row does to what lies outside the blocks: nothing, or at RST# and the changes of power, the transaction is
abandoned (R189; assumption 34). -/
def OutsideMove (i : Instr) (s t : State) : Prop :=
  t.outside = s.outside ∨
    i ∈ [.rstAssert, .powerLoss, .powerOn] ∧ t.outside = { s.outside with port := s.port.abandoned }

theorem assertRst_outside (s : State) : OutsideMove .rstAssert s (assertRst s) := by
  unfold assertRst
  split
  · exact .inl rfl
  · exact .inr ⟨by simp, rfl⟩

theorem powerOn_outside (s : State) : OutsideMove .powerOn s (powerOn s) := by
  unfold powerOn
  split
  · exact .inr ⟨by simp, rfl⟩
  · exact .inl rfl

theorem endStartup_outside (s : State) : (endStartup s).outside = s.outside := by
  unfold endStartup
  split <;> rfl

/-- Every command of the table has a next state. -/
theorem exec_outside (i : Instr) (s : State) : ∃ t, exec i s = .next t ∧ OutsideMove i s t := by
  have event : ∀ {f : State → State}, (f s).outside = s.outside →
      ∃ t, (.next (whenRunning f s) : Host.Outcome State Fault Refusal) = .next t ∧ OutsideMove i s t :=
    fun k => ⟨_, rfl, .inl (whenRunning_outside k)⟩
  have start : ∀ {code : Byte} {f : CommandCopy → State → State}, (∀ c u, (f c u).outside = u.outside) →
      ∃ t, (.next (writeStart code f s) : Host.Outcome State Fault Refusal) = .next t ∧ OutsideMove i s t :=
    fun k => ⟨_, rfl, .inl (writeStart_outside k)⟩
  have damaged : ∀ {code : Byte} {ds : List Damage} {f : CommandCopy → State → State},
      (∀ c u, (f c u).outside = u.outside) →
      ∃ t, (.next (writeStart code (fun c u => f c (damage ds u)) s) : Host.Outcome State Fault Refusal) = .next t ∧
        OutsideMove i s t :=
    fun k => start fun c u => (k c _).trans (Run.damage _ u).outside
  cases i with
  | jobFirstWord w => exact event (frameInWord_outside ..)
  | jobHeader w atLookup atRoll => exact event ((frameInWord_outside ..).trans (Run.damage ..).outside)
  | frameWord w => exact event (frameInWord_outside ..)
  | discardWord w => exact event (frameInWord_outside ..)
  | stageToWork l => exact event (Run.moveToWork l s).outside
  | keyFetch l => exact event (Run.fetchKey l s).outside
  | header l => exact event (Run.headerPhase l s).outside
  | body l => exact event (Run.bodyPhase l s).outside
  | tag l => exact event (Run.tagPhase l s).outside
  | workToOut l => exact event (Run.moveToOut l s).outside
  | laneFault l => exact event (Run.faultLane l s).outside
  | release atRead atRoll => exact event (releaseHead_outside ..)
  | resultWord => exact event (Run.acceptWord s).outside
  | drainTimerExpiry k => exact event (Run.expireTimer k s).outside
  | install => exact start fun _ _ => runInstall_outside
  | succeed found => exact damaged fun _ _ => runSucceed_outside
  | unwrapCompletion => exact event completeUnwrap_outside
  | activate found => exact damaged fun _ _ => runActivate_outside
  | retire found => exact damaged fun _ _ => runRetire_outside
  | modify found => exact damaged fun _ _ => runModify_outside
  | purge => exact start fun _ _ => runPurge_outside
  | query found => exact damaged fun _ _ => runQuery_outside
  | queryTag => exact start fun _ _ => runQueryTag_outside
  | softReset => exact start fun _ _ => runSoftReset_outside
  | writeRecipe => exact start fun _ _ => runWriteRecipe_outside
  | clearRecipe => exact start fun _ _ => runClearRecipe_outside
  | readRecipe => exact start fun _ _ => runReadRecipe_outside
  | abortLanes => exact start fun _ _ => runAbortLanes_outside
  | restoreLane => exact start fun _ _ => runRestoreLane_outside
  | collect => exact start fun _ _ => runCollect_outside
  | collectNext => exact start fun _ _ => runCollectNext_outside
  | programAnchor => exact start fun _ _ => runProgramAnchor_outside
  | anchorProgramComplete readBack => exact event (completeProgram_outside readBack)
  | revokeAnchor => exact start fun _ _ => runRevokeAnchor_outside
  | anchorRevokeComplete readBack => exact event (completeRevoke_outside readBack)
  | readAnchorState => exact start fun _ _ => rfl
  | setLock => exact start fun _ _ => runSetLock_outside
  | clearLock => exact start fun _ _ => runClearLock_outside
  | readLocks => exact start fun _ _ => rfl
  | badCommand code => exact start fun _ _ => runOf_outside code
  | startRefused code => exact start fun _ _ => runOf_outside code
  | interruptFlagsWrite x => exact event rfl
  | interruptMaskWrite x => exact event rfl
  | registerWrite addr x => exact event (writeWindow_outside addr x)
  | lockLineLevel asserted => exact ⟨_, rfl, .inl rfl⟩
  | rstAssert => exact ⟨_, rfl, assertRst_outside s⟩
  | rstRelease => exact ⟨_, rfl, .inl rfl⟩
  | powerOn => exact ⟨_, rfl, powerOn_outside s⟩
  | powerLoss => exact ⟨_, rfl, .inr ⟨by simp, rfl⟩⟩
  | startupEnd => exact ⟨_, rfl, .inl (endStartup_outside s)⟩

/-- Settles O3. -/
theorem noCommandStopsThePart : Obligations.NoCommandStopsThePart := by
  intro c s
  obtain ⟨t, next, same | ⟨reset, abandoned⟩⟩ := exec_outside c s
  · exact ⟨t, next, congrArg Outside.pending same, congrArg Outside.serial same, .inl (congrArg Outside.port same)⟩
  · exact ⟨t, next, congrArg Outside.pending abandoned, congrArg Outside.serial abandoned,
      .inr ⟨reset, congrArg Outside.port abandoned⟩⟩

end Sys2Proof.Machine
end

section
/-! PROOFS. The anchor commands, and the completions of their writes. -/

namespace Sys2Proof.Machine
open Sys2Proof

/-! ## PROGRAM_ANCHOR and REVOKE_ANCHOR at their Start -/

theorem byteAt_of_indexAt {b : Block} {off n : Nat} {i : Fin n} (h : indexAt b off n = some i) :
    byteAt b off = BitVec.ofNat 8 i.val := by
  unfold indexAt at h
  split at h
  · cases h; simp
  · cases h

/-- A refused anchor command reports the anchor it names as it stood before the Start (assumption 13). -/
theorem anchorReport_named {s : State} {a : AnchorNo} (named : indexAt s.commandBlock 0x00 8 = some a) (code : Byte) :
    anchorReport (copyAtStart code s) (s.copied code) =
      [BitVec.ofNat 8 a.val, anchorStateByte (s.anchor a).state] := by
  rw [anchorReport, anchorIndexByte, copyAtStart_block, named, byteAt_of_indexAt named]
  rfl

section
variable {s : State} (h : Unlocked s) {a : AnchorNo} (named : indexAt s.commandBlock 0x00 8 = some a)
include h named

theorem exec_programAnchor_noKey (noKey : wordAt s.commandBlock 0x20 32 256 = 0) :
    exec .programAnchor s = .next
      (s.answered 0x28 .badField [BitVec.ofNat 8 a.val, anchorStateByte (s.anchor a).state]) := by
  have noKey : carriedKey (copyAtStart 0x28 s) = 0 := noKey
  simp only [exec, execProgramAnchor, writeStart_ready h.toCommandReady, runProgramAnchor,
    guarded_released (c := copyAtStart 0x28 s) h.released, copyAtStart_block, named, noKey, if_true,
    anchorReport_named named, post_copied]

/-- With a key, PROGRAM_ANCHOR comes to the check of the anchor's state (R179). -/
theorem exec_programAnchor_key (key : wordAt s.commandBlock 0x20 32 256 ≠ 0) :
    exec .programAnchor s = .next (programStart (copyAtStart 0x28 s) a (s.copied 0x28)) := by
  have key : carriedKey (copyAtStart 0x28 s) ≠ 0 := key
  simp only [exec, execProgramAnchor, writeStart_ready h.toCommandReady, runProgramAnchor,
    guarded_released (c := copyAtStart 0x28 s) h.released, copyAtStart_block, named, key, if_false]

theorem exec_programAnchor_blank (key : wordAt s.commandBlock 0x20 32 256 ≠ 0) (blank : (s.anchor a).state = .blank) :
    exec .programAnchor s = .next
      { (s.copied 0x28).setAnchor a { s.anchor a with openWrite := some .programming } with
        unit := .programming a } := by
  rw [exec_programAnchor_key h named key]
  exact congrArg _ (if_pos blank)

theorem exec_programAnchor_used (key : wordAt s.commandBlock 0x20 32 256 ≠ 0) (used : (s.anchor a).state ≠ .blank) :
    exec .programAnchor s = .next
      (s.answered 0x28 .anchorUsed [BitVec.ofNat 8 a.val, anchorStateByte (s.anchor a).state]) := by
  rw [exec_programAnchor_key h named key, ← post_copied, ← anchorReport_named named]
  exact congrArg _ (if_neg used)

theorem exec_revokeAnchor_named :
    exec .revokeAnchor s = .next (revokeStart (copyAtStart 0x29 s) a (s.copied 0x29)) := by
  simp only [exec, execRevokeAnchor, writeStart_ready h.toCommandReady, runRevokeAnchor,
    guarded_released (c := copyAtStart 0x29 s) h.released, copyAtStart_block, named]

theorem exec_revokeAnchor_programmed (programmed : (s.anchor a).state = .programmed) :
    exec .revokeAnchor s = .next
      { (s.copied 0x29).setAnchor a { s.anchor a with openWrite := some .revoking } with unit := .revoking a } := by
  rw [exec_revokeAnchor_named h named]
  exact congrArg _ (if_pos programmed)

theorem exec_revokeAnchor_badState (other : (s.anchor a).state ≠ .programmed) :
    exec .revokeAnchor s = .next
      (s.answered 0x29 .badState [BitVec.ofNat 8 a.val, anchorStateByte (s.anchor a).state]) := by
  rw [exec_revokeAnchor_named h named, ← post_copied, ← anchorReport_named named]
  exact congrArg _ (if_neg other)

end

/-! ## The completions -/

section
variable {s : State} {c : CommandCopy} {a : AnchorNo} (running : s.power = .running) (copy : s.copy = some c)
include running copy

theorem exec_anchorProgramComplete (executing : s.unit = .programming a) (readBack : Option AnchorKey) :
    exec (.anchorProgramComplete readBack) s = .next (finishProgram c a readBack s) := by
  simp only [exec, execAnchorProgramComplete, whenRunning_running running, completeProgram, executing, copy]

theorem exec_anchorRevokeComplete (executing : s.unit = .revoking a) (readBack : AnchorState) :
    exec (.anchorRevokeComplete readBack) s = .next (finishRevoke c a readBack s) := by
  simp only [exec, execAnchorRevokeComplete, whenRunning_running running, completeRevoke, executing, copy]

end

/-- Settles O49: the Starts by the key and the anchor's state, the completions by what is read back. -/
theorem anchorsWritten : Obligations.AnchorsWritten := by
  refine ⟨fun s a h named => ⟨fun noKey => ⟨_, exec_programAnchor_noKey h named noKey⟩,
    exec_programAnchor_blank h named, exec_programAnchor_used h named, exec_revokeAnchor_programmed h named,
    exec_revokeAnchor_badState h named⟩,
    fun s c a running copy => ⟨fun executing readBack => ?_, fun executing => ⟨?_, fun readBack differs => ?_⟩⟩⟩
  · rw [exec_anchorProgramComplete running copy executing]
    exact ⟨fun equal => congrArg _ (if_pos equal), fun differs => congrArg _ (if_neg differs)⟩
  · rw [exec_anchorRevokeComplete running copy executing]
    exact congrArg _ (if_pos rfl)
  · rw [exec_anchorRevokeComplete running copy executing]
    exact congrArg _ (if_neg differs)

end Sys2Proof.Machine
end

section
/-! PROOFS. The lock commands, and the reports of anchors and lock ranges. -/

namespace Sys2Proof.Machine
open Sys2Proof

/-! ## The fields of SET_LOCK -/

theorem stickyRange_iff {s : State} {n : RangeNo} :
    stickyRange s n = true ↔ ∃ r, s.lockRange n = some r ∧ r.sticky = true := Option.any_eq_true ..

theorem tagAt_eq_some {b : Block} {off : Nat} {t : Tag} :
    tagAt b off = some t ↔ wordAt b off 2 16 ≠ 0 ∧ wordAt b off 2 16 = t := by
  unfold tagAt
  split
  · rename_i zero; exact ⟨nofun, fun h => absurd zero h.1⟩
  · rename_i used; exact ⟨fun h => ⟨used, Option.some.inj h⟩, fun h => congrArg some h.2⟩

theorem stickyOf_isSome {x : Byte} : (stickyOf x).isSome = true ↔ x = 0 ∨ x = 1 := by
  unfold stickyOf
  split
  · rename_i clear; exact iff_of_true rfl (.inl clear)
  · rename_i notClear
    split
    · rename_i raised; exact iff_of_true rfl (.inr raised)
    · rename_i notRaised; exact iff_of_false nofun (not_or.2 ⟨notClear, notRaised⟩)

/-- The fields of a SET_LOCK are in range (R185 check 2). -/
def LockFieldsInRange (b : Block) : Prop :=
  (byteAt b 0x01 = 0 ∨ byteAt b 0x01 = 1) ∧ wordAt b 0x02 2 16 ≠ 0 ∧ wordAt b 0x04 2 16 ≠ 0 ∧
    wordAt b 0x02 2 16 ≤ wordAt b 0x04 2 16

/-- The range that the fields of a SET_LOCK spell. -/
def lockFields (b : Block) : LockRange := ⟨wordAt b 0x02 2 16, wordAt b 0x04 2 16, byteAt b 0x01 = 1⟩

theorem lockRangeAt_of_inRange {b : Block} (h : LockFieldsInRange b) : lockRangeAt b = some (lockFields b) := by
  obtain ⟨flag, low, high, ordered⟩ := h
  have sticky : stickyOf (byteAt b 0x01) = some (decide (byteAt b 0x01 = 1)) := by
    rcases flag with e | e <;> rw [e] <;> rfl
  rw [lockRangeAt, sticky, tagAt_eq_some.2 ⟨low, rfl⟩, tagAt_eq_some.2 ⟨high, rfl⟩]
  exact if_pos ordered

theorem lockRangeAt_of_not_inRange {b : Block} (h : ¬LockFieldsInRange b) : lockRangeAt b = none := by
  unfold lockRangeAt
  split
  · rename_i flag hlow hhigh
    obtain ⟨low, rfl⟩ := tagAt_eq_some.1 hlow
    obtain ⟨high, rfl⟩ := tagAt_eq_some.1 hhigh
    exact if_neg fun ordered => h ⟨stickyOf_isSome.1 (Option.isSome_of_eq_some flag), low, high, ordered⟩
  · rfl

/-- The report of a range shows the flag as it was given. -/
theorem rangeReport_lockFields {b : Block} (h : LockFieldsInRange b) :
    rangeReport (some (lockFields b)) = [0x01, byteAt b 0x01] ++ bytesOf 2 (wordAt b 0x02 2 16).toNat
      ++ bytesOf 2 (wordAt b 0x04 2 16).toNat := by
  have flag : yesNo (decide (byteAt b 0x01 = 1)) = byteAt b 0x01 := by
    rcases h.1 with e | e <;> rw [e] <;> rfl
  rw [rangeReport, lockFields, flag]
  rfl

/-! ## SET_LOCK and CLEAR_LOCK -/

/-- A range changes and the command is DONE (R185, R186). -/
theorem post_setLockRange (s : State) (n : RangeNo) (r : Option LockRange) (code : Byte) (f : List Byte) :
    post (copyAtStart code s) .done f ((s.copied code).setLockRange n r) =
      (s.setLockRange n r).answered code .done f :=
  post_answered (u := s.setLockRange n r) rfl rfl

theorem stickyRange_copied (s : State) (code : Byte) (n : RangeNo) :
    stickyRange (s.copied code) n = stickyRange s n := rfl

section
variable {s : State} (h : Unlocked s)
include h

theorem exec_setLock_badField
    (refused : indexAt s.commandBlock 0x00 4 = none ∨ ¬LockFieldsInRange s.commandBlock) :
    exec .setLock s = .next (s.answered 0x30 .badField []) := by
  simp only [exec, execSetLock, writeStart_ready h.toCommandReady, runSetLock,
    guarded_released (c := copyAtStart 0x30 s) h.released, copyAtStart_block]
  split
  · rename_i named fields
    rcases refused with noIndex | outOfRange
    · exact absurd (named.symm.trans noIndex) (Option.some_ne_none _)
    · exact absurd (fields.symm.trans (lockRangeAt_of_not_inRange outOfRange)) (Option.some_ne_none _)
  · rw [post_copied]

theorem exec_clearLock_badField (noIndex : indexAt s.commandBlock 0x00 4 = none) :
    exec .clearLock s = .next (s.answered 0x31 .badField []) := by
  simp only [exec, execClearLock, writeStart_ready h.toCommandReady, runClearLock,
    guarded_released (c := copyAtStart 0x31 s) h.released, copyAtStart_block, noIndex, post_copied]

variable {n : RangeNo} (named : indexAt s.commandBlock 0x00 4 = some n)
include named

theorem exec_setLock_inRange (inRange : LockFieldsInRange s.commandBlock) :
    exec .setLock s = .next (if stickyRange s n then s.answered 0x30 .sticky [] else
      (s.setLockRange n (some (lockFields s.commandBlock))).answered 0x30 .done
        (rangeByte n :: rangeReport (some (lockFields s.commandBlock)))) := by
  simp only [exec, execSetLock, writeStart_ready h.toCommandReady, runSetLock,
    guarded_released (c := copyAtStart 0x30 s) h.released, copyAtStart_block, named,
    lockRangeAt_of_inRange inRange, stickyRange_copied, post_copied, post_setLockRange]

theorem exec_clearLock_named :
    exec .clearLock s = .next (if stickyRange s n then s.answered 0x31 .sticky [] else
      (s.setLockRange n none).answered 0x31 .done (rangeByte n :: rangeReport none)) := by
  simp only [exec, execClearLock, writeStart_ready h.toCommandReady, runClearLock,
    guarded_released (c := copyAtStart 0x31 s) h.released, copyAtStart_block, named, stickyRange_copied, post_copied,
    post_setLockRange]

end

/-- Settles O51: by the fields and the index, and then by the sticky flag of the range as it stands. -/
theorem lockRangesSetAndCleared : Obligations.LockRangesSetAndCleared := by
  refine fun s h => ⟨fun n named => ⟨fun outOfRange => exec_setLock_badField h (.inr outOfRange),
    fun inRange sticky => ?_, fun inRange notSticky => ?_, fun sticky => ?_, fun notSticky => ?_⟩,
    fun noIndex => ⟨exec_setLock_badField h (.inl noIndex), exec_clearLock_badField h noIndex⟩⟩
  · rw [exec_setLock_inRange h named inRange, if_pos (stickyRange_iff.2 sticky)]
  · rw [exec_setLock_inRange h named inRange, if_neg (mt stickyRange_iff.1 notSticky), rangeReport_lockFields inRange]
    rfl
  · rw [exec_clearLock_named h named, if_pos (stickyRange_iff.2 sticky)]
  · rw [exec_clearLock_named h named, if_neg (mt stickyRange_iff.1 notSticky)]
    rfl

/-! ## READ_ANCHOR_STATE and READ_LOCKS -/

section
variable {s : State} (h : CommandReady s)
include h

theorem exec_readAnchorState_ready :
    exec .readAnchorState s = .next
      (s.answered 0x2A .done ((List.finRange 8).map fun a => anchorStateByte (s.anchor a).state)) := by
  have states : s.anchors.toList.map (fun x => anchorStateByte x.state) =
      (List.finRange 8).map fun a => anchorStateByte (s.anchor a).state := by
    rw [toList_eq_map_finRange, List.map_map]
    rfl
  rw [← states, ← post_copied]
  exact congrArg _ (writeStart_ready h)

theorem exec_readLocks_ready :
    exec .readLocks s = .next
      (s.answered 0x32 .done ((List.finRange 4).map fun n => rangeReport (s.lockRange n)).flatten) := by
  have ranges : s.locks.toList.map rangeReport = (List.finRange 4).map fun n => rangeReport (s.lockRange n) := by
    rw [toList_eq_map_finRange, List.map_map]
    rfl
  rw [← ranges, ← post_copied]
  exact congrArg _ (writeStart_ready h)

end

/-- Settles O50. -/
theorem anchorStatesAndLocksReported : Obligations.AnchorStatesAndLocksReported := by
  intro s h
  refine ⟨exec_readAnchorState_ready h, (exec_readLocks_ready h).trans ?_⟩
  refine congrArg (fun rows : List (List Byte) => Host.Outcome.next (s.answered 0x32 .done rows.flatten))
    (List.map_congr_left fun n _ => ?_)
  cases s.lockRange n <;> rfl

end Sys2Proof.Machine
end

section
/-! PROOFS. LOCK#, RST#, the supplies and the start-up scan; transactions abandoned and ignored. -/

namespace Sys2Proof.Machine
open Sys2Proof

/-! ## RST#, the supplies and start-up -/

theorem exec_rstAssert_powered {s : State} (powered : s.power ≠ .off) :
    exec .rstAssert s = .next { hardReset s with rstLine := true, power := .startUp } := congrArg _ (if_neg powered)

theorem exec_rstAssert_off {s : State} (off : s.power = .off) :
    exec .rstAssert s = .next { s with rstLine := true } := congrArg _ (if_pos off)

theorem exec_powerOn_off {s : State} (off : s.power = .off) :
    exec .powerOn s = .next { hardReset s with power := .startUp } := congrArg _ (if_pos off)

theorem exec_startupEnd_starting {s : State} (starting : s.power = .startUp) (released : s.rstLine = false) :
    exec .startupEnd s = .next { scanAnchors s with power := .running } := congrArg _ (if_pos ⟨starting, released⟩)

/-! ## The start-up scan of one anchor (R182) -/

theorem scanAnchor_none {x : Anchor} (h : x.openWrite = none) : scanAnchor x = x := by
  rw [scanAnchor, h]

theorem scanAnchor_programming {x : Anchor} (h : x.openWrite = some .programming) :
    scanAnchor x = ⟨.defective, none, none⟩ := by
  rw [scanAnchor, h]

theorem scanAnchor_revoking {x : Anchor} (h : x.openWrite = some .revoking) :
    scanAnchor x = { x with openWrite := none } := by
  rw [scanAnchor, h]

/-! ## Transactions abandoned and ignored -/

theorem Port.abandoned_eq_deselected {p : Port} : p.abandoned = .deselected ↔ p = .deselected := by
  cases p <;> simp [Port.abandoned]

theorem Port.abandoned_of_selected {p : Port} (h : p ≠ .deselected) : p.abandoned = .ignoring := by
  cases p with
  | deselected => exact absurd rfl h
  | ignoring | instruction | address | writing | reading => rfl

/-- A transaction begun before start-up has ended is ignored (R196). -/
theorem csFall_not_running {s : State} (h : s.power ≠ .running) (high : s.port = .deselected) :
    serialEvent .csFall s = { s with port := .ignoring } := by
  simp only [serialEvent, fallCs, high, if_neg h]

/-- A transaction that is ignored is ended by CS# rising alone (R189). -/
theorem serialEvent_ignoring {s : State} (h : s.port = .ignoring) (e : SerialEvent) :
    serialEvent e s = if e = .csRise then { s with port := .deselected } else s := by
  cases e with
  | csFall => simp [serialEvent, fallCs, h]
  | csRise => rfl
  | sckRise sdi => simp [serialEvent, whenRunning, riseSck, h]
  | sckFall => simp [serialEvent, whenRunning, fallSck, h]

theorem sdo_ignoring {s : State} (h : s.port = .ignoring) : sdo s = none := by rw [sdo, h]

/-- Settles O54, the start-up scan anchor by anchor, by the write that stood open. -/
theorem linesAndPowerAct : Obligations.LinesAndPowerAct := by
  refine fun s => ⟨fun _ => rfl,
    ⟨exec_rstAssert_powered, exec_rstAssert_off, rfl, rfl, exec_powerOn_off⟩,
    fun starting released => ⟨_, exec_startupEnd_starting starting released, rfl, fun a => ?_⟩,
    Port.abandoned_eq_deselected, Port.abandoned_of_selected, csFall_not_running,
    fun ignored e => ⟨sdo_ignoring ignored, serialEvent_ignoring ignored e⟩⟩
  have scanned : ({ scanAnchors s with power := .running } : State).anchor a = scanAnchor (s.anchor a) :=
    anchor_scanAnchors s a
  rw [scanned]
  refine ⟨scanAnchor_none, fun programming => ?_, scanAnchor_revoking⟩
  rw [scanAnchor_programming programming]
  exact ⟨rfl, rfl⟩

end Sys2Proof.Machine
end

section
/-! PROOFS. Power applied and start-up ended: every block in its power-on state. -/

namespace Sys2Proof.Machine
open Sys2Proof

/-- The part once power is applied and start-up has ended: as right after reset, but for the scanned anchors, the lines,
the port and the queues outside the part (R182, R189, R196). -/
def startedUp (s : State) : State :=
  { State.reset with
    anchors := s.anchors.map scanAnchor
    lockLine := s.lockLine
    rstLine := s.rstLine
    port := s.port.abandoned
    serial := s.serial
    pending := s.pending }

theorem startupEnd_of_hardReset {s : State} (released : s.rstLine = false) :
    exec .startupEnd { hardReset s with power := .startUp } = .next (startedUp s) :=
  exec_startupEnd_starting rfl released

/-! ## What reset leaves in the lanes, the blocks and the port -/

theorem lane_reset (l : LaneId) : State.reset.lane l = Lane.initial := by cases l <;> rfl

theorem byteAt_replicate_zero {i : Nat} (h : i < 96) : byteAt (Vector.replicate 96 0) i = 0 := by
  simp [byteAt, h]

theorem Port.abandoned_cases (p : Port) : p.abandoned = .deselected ∨ p.abandoned = .ignoring := by
  by_cases high : p = .deselected
  · exact .inl (abandoned_eq_deselected.2 high)
  · exact .inr (abandoned_of_selected high)

/-- What the blocks hold after start-up is what they hold at reset: `startedUp` differs from it only outside them. -/
theorem startedUp_blocks (s : State) :
    (∀ k, (startedUp s).slot k = none ∧ (startedUp s).cond k = none) ∧
    (∀ x, (startedUp s).entry x = DirEntry.empty) ∧ (∀ n, (startedUp s).recipe n = Recipe.initial) ∧
    (∀ l, (startedUp s).lane l = Lane.initial) ∧ (∀ n, (startedUp s).lockRange n = none) :=
  ⟨fun k => ⟨slot_reset k, cond_reset k⟩, entry_reset, recipe_reset, lane_reset, lockRange_reset⟩

/-- No flag or condition drives ATTN#, the first word of a frame is taken, and no result is presented (R75, R129,
R145). -/
theorem startedUp_ports (s : State) :
    attnDriven (startedUp s) = false ∧ frameInReady (startedUp s) = true ∧ frameOutWord (startedUp s) = none :=
  ⟨rfl, rfl, rfl⟩

/-- The part code and the revision stand at 00h and 01h, and no flag is set and none enabled (Table 10-2, Table 10-3). -/
theorem startedUp_window (s : State) :
    windowByte 0x00 (startedUp s) = 0x4C ∧ windowByte 0x01 (startedUp s) = 0x01 ∧ windowByte 0x05 (startedUp s) = 0 ∧
    windowByte 0x06 (startedUp s) = 0 := by
  have flags : windowByte 0x05 (startedUp s) = flagsByte State.reset := rfl
  have mask : windowByte 0x06 (startedUp s) = maskByte State.reset.mask := rfl
  exact ⟨rfl, rfl, flags.trans (by decide), mask.trans (by decide)⟩

/-- Settles O4: the two steps lead to `startedUp s`, whose blocks are those of reset. -/
theorem powerOnAndStartupGiveResetState : Obligations.PowerOnAndStartupGiveResetState := by
  intro s off released
  obtain ⟨slots, entries, recipes, lanes, locks⟩ := startedUp_blocks s
  obtain ⟨attn, ready, idle⟩ := startedUp_ports s
  obtain ⟨part, revision, flags, mask⟩ := startedUp_window s
  exact ⟨_, startedUp s, exec_powerOn_off off, rfl, startupEnd_of_hardReset released, rfl, slots, entries, recipes, rfl,
    rfl, lanes, rfl, rfl, rfl, rfl, rfl, fun _ h => ⟨byteAt_replicate_zero h, byteAt_replicate_zero h⟩, locks, attn, ready,
    idle, part, revision, flags, mask, s.port.abandoned_cases⟩

end Sys2Proof.Machine
end

section
/-! PROOFS. The step of a part with a command waiting. -/

namespace Sys2Proof.Machine
open Sys2Proof

/-- The command leaves the queue before it is executed: `exec` sees only those behind it. -/
theorem step_of_pending {s : State} {c : Instr} {rest : List Instr} (waiting : s.pending = c :: rest) :
    step s = exec c { s with pending := rest } := by
  simp only [step, waiting]

/-- Settles O1: the case of `step_of_pending` where the queue is put there by name; `rest` replaces it whole. -/
theorem stepTakesFrontCommand : Obligations.StepTakesFrontCommand := fun _ _ _ => step_of_pending rfl

end Sys2Proof.Machine
end
